-- ==== Sys2Proof/Word.lean ====
section
/-! DEFINITION. The word types of the block (00_scope.md Table P) and nothing else: the arithmetic on them stands
in Machine/Operands.lean. -/

namespace Sys2Proof

/-- An encoder count or a rotary pattern: `ENC_W = ROT_W = 16` (Table P). -/
abbrev Word16 := BitVec 16

/-- A position, a ratio or a tick count: `POS_W = RATIO_W = TICK_W = 32` (Table P). -/
abbrev Word32 := BitVec 32

/-- A display glyph or a small counter: `DIG_W = CLICK_W = 8` (Table P). -/
abbrev Byte := BitVec 8

/-- A units index 0..3 (`UNITS_MIN`..`UNITS_MAX`, Table P). -/
abbrev Units := BitVec 2

/-- A row index, `VAL_W = 15` (Table P). -/
abbrev RowIndex := BitVec 15

/-- The container a word of any port is presented in. The widest format, `ROT`, has 17 bits (30_encoding.md
Table E0); 24 is that in whole bytes. -/
abbrev PortWord := BitVec 24

end Sys2Proof
end

