-- ==== Sys2Proof/Config.lean ====
section
/-! DEFINITION. The parameters of the block: 00_scope.md Table P (R8) and 92_eei_decisions.md section 7, all of them in
one record, which a state carries as the constant it is (R292), so that a claim names or quantifies over any of them.
What the spec leaves open and gives no reference value for (the feed tables, the glyph codes) has no body here. -/

namespace Sys2Proof

/-- `CLICK_W`'s saturation point, the largest count a `Byte` holds (R212). -/
def Config.clickMax : Nat := 255

/-- FeedTableRow (R41): three opaque glyph codes and a 16.16 ratio. -/
structure FeedRow where
  digit1 : Byte
  digit10 : Byte
  digit100 : Byte
  ratio : Word32
deriving DecidableEq, Repr, Inhabited

/-- One feed table (R41). It has a first row, so `TABLE_SIZE = 0` cannot be written. -/
structure FeedTable where
  first : FeedRow
  others : List FeedRow
deriving DecidableEq, Repr, Inhabited

/-- `TABLE_SIZE[u]` (R41). -/
def FeedTable.size (t : FeedTable) : Nat := t.others.length + 1

/-- The four tables, in the order of R106. -/
structure FeedTables where
  mmFeed : FeedTable
  mmThread : FeedTable
  inchFeed : FeedTable
  inchThread : FeedTable
deriving DecidableEq, Repr, Inhabited

/-- The glyph codes of R237. `GLYPH_DIGIT(3)` is the glyph of the reserved fault code and never shown (R104). -/
structure Glyphs where
  blank : Byte
  minus : Byte
  err : Byte
  digit0 : Byte
  digit1 : Byte
  digit2 : Byte
  digit3 : Byte
deriving DecidableEq, Repr, Inhabited

/-- A selection `{units, value, reverse}` (R31, R32). -/
structure Selection where
  units : Units
  value : RowIndex
  reverse : Bool
deriving DecidableEq, Repr, Inhabited

/-- The widths of Table P, in bits. The types of Word.lean have these widths; `Params.fixedOk` holds a record to them. -/
structure Widths where
  enc : Nat := 16
  pos : Nat := 32
  ratio : Nat := 32
  dig : Nat := 8
  tick : Nat := 32
  rot : Nat := 16
  val : Nat := 15
  click : Nat := 8
deriving DecidableEq, Repr

/-- Every row of Table P, in one record (R8). First the rows the spec leaves open (92_eei_decisions.md section 7), each
with its reference value if it has one; then the rows it fixes, with the value it fixes (`Params.fixedOk`,
notes/assumptions/13.md). -/
structure Params where
  /-- `FeedTable`, `TABLE_SIZE` (D32). -/
  tables : FeedTables
  /-- `GLYPH_*` (D22). -/
  glyphs : Glyphs
  /-- `DEFAULT_UNITS`, `DEFAULT_VALUE`, `DEFAULT_REVERSE` (D20). -/
  defaults : Selection := { units := 0#2, value := 0#15, reverse := false }
  /-- `LOW_WATER` (D4, R9). -/
  lowWater : Word32 := 0x00010000#32
  /-- `DEBOUNCE_TICKS` (R211). -/
  debounceTicks : Nat := 50
  /-- `AGG_TICKS` (R212). -/
  aggTicks : Nat := 250
  /-- `ALARM_STABLE` (R221). -/
  alarmStable : Nat := 10
  /-- `TICK_PERIOD` in milliseconds, reference only: no rule of the block reads it (R310). -/
  tickPeriodMs : Nat := 1
  /-- `UI_PERIOD` in ticks, reference only: no rule of the block reads it (R310). -/
  uiPeriodTicks : Nat := 10
  /-- `BIAS` (R21, D3). -/
  bias : Word32 := 0x80000000#32
  /-- `JITTER_THRESH` (R132). -/
  jitterThresh : Nat := 10
  /-- `MAX_STEPS` (R137). -/
  maxSteps : Nat := 255
  /-- `UNITS_MIN` (R165). -/
  unitsMin : Int := 0
  /-- `UNITS_MAX` (R165). -/
  unitsMax : Int := 3
  /-- `EDIT_TIMEOUT`, in ticks (R162). -/
  editTimeout : Nat := 5000
  /-- `QUAD`: the clear needs a click count above it (R95, R176). -/
  quad : Nat := 3
  /-- `FLASH_BIT` (R180, D24). -/
  flashBit : Nat := 7
  /-- `ENC_W`, `POS_W`, `RATIO_W`, `DIG_W`, `TICK_W`, `ROT_W`, `VAL_W`, `CLICK_W`. -/
  widths : Widths := {}
deriving DecidableEq, Repr

/-- The feed-table data, which the source withholds (D32). UNVERIFIED, safe: no proof can see it (notes/assumptions/1.md). -/
opaque Config.feedTables : FeedTables

/-- The glyph codes, which the source withholds (D22). UNVERIFIED, safe: no proof can see them (notes/assumptions/1.md). -/
opaque Config.glyphs : Glyphs

/-- The parameters of the machine that `State.reset` is: the withheld data above and the reference values. -/
def Config.params : Params := { tables := Config.feedTables, glyphs := Config.glyphs }

end Sys2Proof
end

