-- ==== Sys2Proof/Syntax.lean ====
section
/-! DEFINITION. The operations of `ELS-CORE` (one constructor of `Instr` per row of spec/opcode_table.json), the word
formats they are presented in, the two enumerations of the block and the commands it emits. -/

namespace Sys2Proof

/-- FaultState (R29): three constructors, so that the reserved code 3 cannot be written (R108). -/
inductive FaultKind where
  | none
  | tooManySteps
  | servoAlarm
deriving DecidableEq, Repr

/-- The states of the UI / Selection Controller (R30). -/
inductive UiState where
  | idle
  | changeUnits
  | changeValue
  | fault
deriving DecidableEq, Repr

/-- The word formats of Table E0 (R90). Each is a port of its own: words of two formats are never told apart by
their bits. `IN1` stands twice, for the button sampler and for the alarm sampler. -/
inductive Port where
  | ev
  | tickSeq
  | uiSeq
  | uit
  | act
  | dsp
  | rot
  | in1Button
  | in1Alarm
  | stb
  | env
deriving DecidableEq, Repr

/-- The width column of Table E0 (R90). -/
def Port.width : Port → Nat
  | .ev => 3
  | .tickSeq => 4
  | .uiSeq => 3
  | .uit => 7
  | .act => 10
  | .dsp => 11
  | .rot => 17
  | .in1Button => 1
  | .in1Alarm => 1
  | .stb => 1
  | .env => 16

/-- The fifteen rows of Table E4 (R96), in its order. -/
inductive UiOp where
  | faultEnterI
  | faultEnterU
  | faultEnterV
  | faultClear
  | faultHold
  | nopF
  | editValue
  | editUnits
  | nopI
  | commitUnits
  | timeoutU
  | nopU
  | commitValue
  | timeoutV
  | nopV
deriving DecidableEq, Repr

/-- The operations, in the order of spec/opcode_table.json (Tables E1 to E6 of 30_encoding.md). -/
inductive Instr where
  | reset
  | noevent
  | uicyc
  | tick
  | tickUicyc
  | synSample
  | synDelta
  | synFilter
  | synAccum
  | synRebase
  | synTarget
  | synSteps
  | synFchk
  | synIssue
  | synHalt
  | uiSample
  | uiActivity
  | uiDecode
  | uiPend
  | uiTrans
  | uiRender
  | uiOutput
  | uiFaultEnterI
  | uiFaultEnterU
  | uiFaultEnterV
  | uiFaultClear
  | uiFaultHold
  | uiNopF
  | uiEditValue
  | uiEditUnits
  | uiNopI
  | uiCommitUnits
  | uiTimeoutU
  | uiNopU
  | uiCommitValue
  | uiTimeoutV
  | uiNopV
  | actNone
  | actStop
  | actDir (d : Bool)
  | actStep (n : Byte)
  | dspWrite (r : BitVec 3) (v : Byte)
  | rotGet
  | rotSet (v : Word16)
  | rotMove (d : Word16)
  | caSample (b : Bool)
  | caRead
  | alSample (b : Bool)
deriving DecidableEq, Repr

/-- The instruction that a row of Table E4 is. -/
def UiOp.instr : UiOp → Instr
  | .faultEnterI => .uiFaultEnterI
  | .faultEnterU => .uiFaultEnterU
  | .faultEnterV => .uiFaultEnterV
  | .faultClear => .uiFaultClear
  | .faultHold => .uiFaultHold
  | .nopF => .uiNopF
  | .editValue => .uiEditValue
  | .editUnits => .uiEditUnits
  | .nopI => .uiNopI
  | .commitUnits => .uiCommitUnits
  | .timeoutU => .uiTimeoutU
  | .nopU => .uiNopU
  | .commitValue => .uiCommitValue
  | .timeoutV => .uiTimeoutV
  | .nopV => .uiNopV

/-- An output command, "a word the block emits: `ACT.*`, `DSP.WRITE`, `ROT.SET`" (R14). -/
inductive Command where
  | actStop
  | actDir (d : Bool)
  | actStep (n : Byte)
  | dspWrite (r : BitVec 3) (v : Byte)
  | rotSet (v : Word16)
deriving DecidableEq, Repr

/-- The instruction whose word an emitted command is. -/
def Command.instr : Command → Instr
  | .actStop => .actStop
  | .actDir d => .actDir d
  | .actStep n => .actStep n
  | .dspWrite r v => .dspWrite r v
  | .rotSet v => .rotSet v

end Sys2Proof
end

