-- ==== Sys2Proof/Machine/Flags.lean ====
section
/-! DEFINITION. The conditions the block computes from its values: the jitter filter, the re-baseline trigger, the step
cap, the edit timeout, the activity test and the flash phase. The block has no carry, overflow, zero or sign flag (R39). -/

namespace Sys2Proof.Machine

/-- "Opposite sign" is strict: one value greater than 0, the other less than 0 (R132, decision D37). -/
def oppositeSign (a b : Word16) : Bool :=
  (decide (0 < a.toInt) && decide (b.toInt < 0)) || (decide (a.toInt < 0) && decide (0 < b.toInt))

/-- `filt` of SYN.FILTER (R132). -/
def jitter (thresh : Nat) (delta lastDelta : Word16) : Bool :=
  oppositeSign delta lastDelta && decide (delta.toInt.natAbs < thresh)

/-- `trig` of SYN.REBASE (R134). -/
def rebaseTrigger (valid : Bool) (cachedRatio rs : Word32) (cachedReverse rv : Bool)
    (spindlePos lowWater : Word32) : Bool :=
  !valid || cachedRatio != rs || cachedReverse != rv || decide (spindlePos.toNat < lowWater.toNat)

/-- `abs_steps > MAX_STEPS` (R137). -/
def overStepCap (cap : Nat) (abs : Word32) : Bool := decide (cap < abs.toNat)

/-- `to`: strictly more than `EDIT_TIMEOUT` ticks, by wraparound-safe subtraction (R162). -/
def timedOut (limit : Nat) (t lastActivity : Word32) : Bool := decide (limit < (t - lastActivity).toNat)

/-- A click or a rotary change (R167). -/
def activity (c : Byte) (r lastRot : Word16) : Bool := c != 0#8 || r != lastRot

/-- `ph = 1`, the dark half of the flash (R180). -/
def flashDark (bit : Nat) (t : Word32) : Bool := t.getLsbD bit

/-- A fault is latched: `fault != None` (R39). -/
def latched (k : FaultKind) : Bool := k != .none

end Sys2Proof.Machine
end

