-- ==== Sys2Proof/WellFormed.lean ====
section
/-! DEFINITION. Which instruction terms are words of the tables, and which parameters meet their constraints. -/

namespace Sys2Proof

/-- `ACT.STEP` carries `n` in 1..255 and `DSP.WRITE` a register in 0..4 (Tables E5 and E6, R97, R98); every other
operand takes every value of its field. -/
def Instr.wellFormed : Instr → Bool
  | .actStep n => n != 0#8
  | .dspWrite r _ => decide (r.toNat ≤ 4)
  | _ => true

/-- `1 <= TABLE_SIZE[u] <= 32768` (R41); the lower bound holds by the type. -/
def FeedTables.wellFormed (t : FeedTables) : Bool :=
  decide (t.mmFeed.size ≤ 32768) && decide (t.mmThread.size ≤ 32768) &&
    decide (t.inchFeed.size ≤ 32768) && decide (t.inchThread.size ≤ 32768)

/-- `0x8000 <= LOW_WATER < BIAS` (92_eei_decisions.md section 7, R9). -/
def Params.lowWaterOk (p : Params) : Bool :=
  decide (0x8000 ≤ p.lowWater.toNat) && decide (p.lowWater.toNat < p.bias.toNat)

/-- Each window is at least one sample long and its run counter fits the register R36, R37 give it. DEDUCED from the
register widths (notes/assumptions/2.md). -/
def Params.windowsOk (p : Params) : Bool :=
  decide (1 ≤ p.debounceTicks) && decide (p.debounceTicks ≤ 63) &&
    decide (1 ≤ p.aggTicks) && decide (p.aggTicks ≤ 255) &&
    decide (1 ≤ p.alarmStable) && decide (p.alarmStable ≤ 15)

/-- The rows of Table P that the spec fixes ("source" rows, and decisions that are no open parameter) have the values of
the table (R8, 93_implementation_defined.md section 3; notes/assumptions/13.md). -/
def Params.fixedOk (p : Params) : Bool :=
  p.bias == 0x80000000#32 && p.jitterThresh == 10 && p.maxSteps == 255 && p.unitsMin == 0 && p.unitsMax == 3 &&
    p.editTimeout == 5000 && p.quad == 3 && p.flashBit == 7 && p.widths == {}

/-- The constraints on the parameters, all together. -/
def Params.wellFormed (p : Params) : Bool :=
  p.tables.wellFormed && p.lowWaterOk && p.windowsOk && p.fixedOk

end Sys2Proof
end

