-- ==== Sys2Proof/Decode.lean ====
section
/-! DEFINITION. The decoder of each port and the encoder, written from Tables E0 to E6 of 30_encoding.md. A decoder is
total: a word with no row is rejected by name. -/

namespace Sys2Proof

/-- Why a word is no instruction. -/
inductive DecodeError where
  /-- A bit at or above the width of the port's format (Table E0) is set. -/
  | tooWide (port : Port)
  /-- The format's table has no row for the word: a reserved word of R97, R98 or R108. -/
  | reserved (port : Port)
deriving DecidableEq, Repr

/-- A row of a table of mask and match words. -/
structure MaskRow (n : Nat) (α : Type) where
  mask : BitVec n
  pat : BitVec n
  op : α
deriving DecidableEq, Repr

/-- `(w & mask) = match` (R96). -/
def MaskRow.hits {n : Nat} {α : Type} (r : MaskRow n α) (w : BitVec n) : Bool := w &&& r.mask == r.pat

/-- The first row a word hits. -/
def lookupRow {n : Nat} {α : Type} (rows : List (MaskRow n α)) (w : BitVec n) : Option α :=
  (rows.find? (fun r => r.hits w)).map (fun r => r.op)

/-- Table E1 (R91). -/
def evRows : List (MaskRow 3 Instr) :=
  [⟨0x4#3, 0x4#3, .reset⟩, ⟨0x7#3, 0x0#3, .noevent⟩, ⟨0x7#3, 0x1#3, .uicyc⟩, ⟨0x7#3, 0x2#3, .tick⟩,
   ⟨0x7#3, 0x3#3, .tickUicyc⟩]

/-- Table E2 (R92). -/
def tickSeqRows : List (MaskRow 4 Instr) :=
  [⟨0xF#4, 0x0#4, .synSample⟩, ⟨0xF#4, 0x1#4, .synDelta⟩, ⟨0xF#4, 0x2#4, .synFilter⟩, ⟨0xF#4, 0x3#4, .synAccum⟩,
   ⟨0xF#4, 0x4#4, .synRebase⟩, ⟨0xF#4, 0x5#4, .synTarget⟩, ⟨0xF#4, 0x6#4, .synSteps⟩, ⟨0xF#4, 0x7#4, .synFchk⟩,
   ⟨0xF#4, 0x8#4, .synIssue⟩, ⟨0xF#4, 0x9#4, .synHalt⟩]

/-- Table E3 (R93). -/
def uiSeqRows : List (MaskRow 3 Instr) :=
  [⟨0x7#3, 0x0#3, .uiSample⟩, ⟨0x7#3, 0x1#3, .uiActivity⟩, ⟨0x7#3, 0x2#3, .uiDecode⟩, ⟨0x7#3, 0x3#3, .uiPend⟩,
   ⟨0x7#3, 0x4#3, .uiTrans⟩, ⟨0x7#3, 0x5#3, .uiRender⟩, ⟨0x7#3, 0x6#3, .uiOutput⟩]

/-- Table E4 (R96). -/
def uitRows : List (MaskRow 7 UiOp) :=
  [⟨0x70#7, 0x40#7, .faultEnterI⟩, ⟨0x70#7, 0x50#7, .faultEnterU⟩, ⟨0x70#7, 0x60#7, .faultEnterV⟩,
   ⟨0x38#7, 0x38#7, .faultClear⟩, ⟨0x3A#7, 0x32#7, .faultHold⟩, ⟨0x3A#7, 0x30#7, .nopF⟩,
   ⟨0x76#7, 0x02#7, .editValue⟩, ⟨0x74#7, 0x04#7, .editUnits⟩, ⟨0x76#7, 0x00#7, .nopI⟩,
   ⟨0x72#7, 0x12#7, .commitUnits⟩, ⟨0x73#7, 0x11#7, .timeoutU⟩, ⟨0x73#7, 0x10#7, .nopU⟩,
   ⟨0x72#7, 0x22#7, .commitValue⟩, ⟨0x73#7, 0x21#7, .timeoutV⟩, ⟨0x73#7, 0x20#7, .nopV⟩]

/-- The row of Table E4 a transition word selects (R96). The rows cover every word, so the default is never taken. -/
def uitSelect (w : BitVec 7) : UiOp := (lookupRow uitRows w).getD .nopI

/-- Table E5 (R97): `op` in bits 9:8, `arg` in bits 7:0; the words the block never emits have no row. -/
def decodeAct (w : BitVec 10) : Option Instr :=
  let op := w.extractLsb' 8 2
  let arg := w.extractLsb' 0 8
  if op = 0#2 then (if arg = 0#8 then some .actNone else none)
  else if op = 1#2 then (if arg = 0#8 then some .actStop else none)
  else if op = 2#2 then (if arg.toNat < 2 then some (.actDir (arg.getLsbD 0)) else none)
  else (if arg = 0#8 then none else some (.actStep arg))

/-- `DSP.WRITE` of Table E6 (R98): register in bits 10:8, value in bits 7:0; registers 5..7 are reserved (R108). -/
def decodeDsp (w : BitVec 11) : Option Instr :=
  let r := w.extractLsb' 8 3
  if r.toNat ≤ 4 then some (.dspWrite r (w.extractLsb' 0 8)) else none

/-- `ROT.GET` and `ROT.SET` of Table E6 (R98): `we` in bit 16. -/
def decodeRot (w : BitVec 17) : Instr :=
  if w.getLsbD 16 then .rotSet (w.extractLsb' 0 16) else .rotGet

/-- The row of a port's table that a word of its format is. -/
def decodeRow (p : Port) (w : PortWord) : Option Instr :=
  match p with
  | .ev => lookupRow evRows (w.setWidth 3)
  | .tickSeq => lookupRow tickSeqRows (w.setWidth 4)
  | .uiSeq => lookupRow uiSeqRows (w.setWidth 3)
  | .uit => (lookupRow uitRows (w.setWidth 7)).map UiOp.instr
  | .act => decodeAct (w.setWidth 10)
  | .dsp => decodeDsp (w.setWidth 11)
  | .rot => some (decodeRot (w.setWidth 17))
  | .in1Button => some (.caSample (w.getLsbD 0))
  | .in1Alarm => some (.alSample (w.getLsbD 0))
  | .stb => if w.getLsbD 0 then some .caRead else none
  | .env => some (.rotMove (w.setWidth 16))

/-- The instruction a word presented on a port is, or why it is none. -/
def decode (p : Port) (w : PortWord) : Except DecodeError Instr :=
  if w.toNat < 2 ^ p.width then
    match decodeRow p w with
    | some i => .ok i
    | none => .error (.reserved p)
  else .error (.tooWide p)

/-- The port an instruction's word is presented on (the format column of the tables). -/
def Instr.port : Instr → Port
  | .reset => .ev
  | .noevent => .ev
  | .uicyc => .ev
  | .tick => .ev
  | .tickUicyc => .ev
  | .synSample => .tickSeq
  | .synDelta => .tickSeq
  | .synFilter => .tickSeq
  | .synAccum => .tickSeq
  | .synRebase => .tickSeq
  | .synTarget => .tickSeq
  | .synSteps => .tickSeq
  | .synFchk => .tickSeq
  | .synIssue => .tickSeq
  | .synHalt => .tickSeq
  | .uiSample => .uiSeq
  | .uiActivity => .uiSeq
  | .uiDecode => .uiSeq
  | .uiPend => .uiSeq
  | .uiTrans => .uiSeq
  | .uiRender => .uiSeq
  | .uiOutput => .uiSeq
  | .uiFaultEnterI => .uit
  | .uiFaultEnterU => .uit
  | .uiFaultEnterV => .uit
  | .uiFaultClear => .uit
  | .uiFaultHold => .uit
  | .uiNopF => .uit
  | .uiEditValue => .uit
  | .uiEditUnits => .uit
  | .uiNopI => .uit
  | .uiCommitUnits => .uit
  | .uiTimeoutU => .uit
  | .uiNopU => .uit
  | .uiCommitValue => .uit
  | .uiTimeoutV => .uit
  | .uiNopV => .uit
  | .actNone => .act
  | .actStop => .act
  | .actDir _ => .act
  | .actStep _ => .act
  | .dspWrite _ _ => .dsp
  | .rotGet => .rot
  | .rotSet _ => .rot
  | .rotMove _ => .env
  | .caSample _ => .in1Button
  | .caRead => .stb
  | .alSample _ => .in1Alarm

/-- The word of an instruction on its port: the match word of its row with its operands in their fields, every
don't-care bit 0. -/
def encode : Instr → PortWord
  | .reset => 0x4#24
  | .noevent => 0x0#24
  | .uicyc => 0x1#24
  | .tick => 0x2#24
  | .tickUicyc => 0x3#24
  | .synSample => 0x0#24
  | .synDelta => 0x1#24
  | .synFilter => 0x2#24
  | .synAccum => 0x3#24
  | .synRebase => 0x4#24
  | .synTarget => 0x5#24
  | .synSteps => 0x6#24
  | .synFchk => 0x7#24
  | .synIssue => 0x8#24
  | .synHalt => 0x9#24
  | .uiSample => 0x0#24
  | .uiActivity => 0x1#24
  | .uiDecode => 0x2#24
  | .uiPend => 0x3#24
  | .uiTrans => 0x4#24
  | .uiRender => 0x5#24
  | .uiOutput => 0x6#24
  | .uiFaultEnterI => 0x40#24
  | .uiFaultEnterU => 0x50#24
  | .uiFaultEnterV => 0x60#24
  | .uiFaultClear => 0x38#24
  | .uiFaultHold => 0x32#24
  | .uiNopF => 0x30#24
  | .uiEditValue => 0x02#24
  | .uiEditUnits => 0x04#24
  | .uiNopI => 0x00#24
  | .uiCommitUnits => 0x12#24
  | .uiTimeoutU => 0x11#24
  | .uiNopU => 0x10#24
  | .uiCommitValue => 0x22#24
  | .uiTimeoutV => 0x21#24
  | .uiNopV => 0x20#24
  | .actNone => 0x000#24
  | .actStop => 0x100#24
  | .actDir d => (0#14 ++ 2#2 ++ 0#7 ++ BitVec.ofBool d : BitVec 24)
  | .actStep n => (0#14 ++ 3#2 ++ n : BitVec 24)
  | .dspWrite r v => (0#13 ++ r ++ v : BitVec 24)
  | .rotGet => 0x00000#24
  | .rotSet v => (0#7 ++ 1#1 ++ v : BitVec 24)
  | .rotMove d => (0#8 ++ d : BitVec 24)
  | .caSample b => (0#23 ++ BitVec.ofBool b : BitVec 24)
  | .caRead => 0x1#24
  | .alSample b => (0#23 ++ BitVec.ofBool b : BitVec 24)

/-- The ports whose words take `nbits` bits in whole bytes, in the order a word that carries no format is tried on
them: `EV` first, the one word the scheduler presents (R90). DESIGN CHOICE (notes/assumptions/3.md). -/
def portsOfBits (nbits : Nat) : List Port :=
  [Port.ev, .tickSeq, .uit, .uiSeq, .stb, .in1Button, .in1Alarm, .act, .dsp, .env, .rot].filter
    (fun p => (p.width + 7) / 8 * 8 == nbits)

/-- The port a table word is read on: the first of `portsOfBits` whose decoder has a row for it. -/
def portOfTableWord (nbits w : Nat) : Option Port :=
  (portsOfBits nbits).find? (fun p => decide (w < 2 ^ p.width) && (decodeRow p (BitVec.ofNat 24 w)).isSome)

/-- The instruction the decoder reads from a word of spec/opcode_table.json that carries no format. -/
def decodeTableWord (nbits w : Nat) : Option Instr :=
  match portOfTableWord nbits w with
  | none => none
  | some p => (decode p (BitVec.ofNat 24 w)).toOption

end Sys2Proof
end

