-- ==== Sys2Proof/Machine/Operands.lean ====
section
/-! DEFINITION. The operand and data encodings of the block: the arithmetic primitives of 00_scope.md R11, R12, the
table read of R163 and the codes of 30_encoding.md section 6. Pure functions; no state. -/

namespace Sys2Proof.Machine

/-- `fxmul(a, r)` (R12): bits [47:16] of the exact 64-bit unsigned product. -/
def fxmul (a r : Word32) : Word32 := BitVec.ofNat 32 (a.toNat * r.toNat / 65536)

/-- The spindle delta as a 16-bit pattern, read signed (R103, R131). -/
def spindleDelta (raw lastRaw : Word16) : Word16 := raw - lastRaw

/-- A delta added to a 32-bit accumulator, modulo 2^32 with sign extension (R133, R143). -/
def accumulate (pos : Word32) (delta : Word16) : Word32 := pos + delta.signExtend 32

/-- The step difference as a 32-bit pattern, read signed (R136). -/
def stepDifference (target servo : Word32) : Word32 := target - servo

/-- `abs(steps)`, `u32`, without overflow at -2^31 (R11, R136). -/
def absSteps (steps : Word32) : Word32 := BitVec.ofNat 32 steps.toInt.natAbs

/-- `d = (steps < 0) xor rv` (R107, R138). -/
def stepDirection (steps : Word32) (rv : Bool) : Bool := xor (decide (steps.toInt < 0)) rv

/-- `rot_decode` (R101). -/
def rotDecode (raw : Word16) : RowIndex × Bool :=
  if 0 ≤ raw.toInt then (BitVec.ofNat 15 raw.toInt.toNat, false)
  else (BitVec.ofNat 15 (-raw.toInt - 1).toNat, true)

/-- `rot_encode` (R102). -/
def rotEncode (mag : RowIndex) (rev : Bool) : Word16 :=
  if rev then BitVec.ofInt 16 (-(mag.toNat : Int) - 1) else BitVec.ofNat 16 mag.toNat

/-- `clamp(as_s16(r), UNITS_MIN, UNITS_MAX)` (R11, R165). -/
def clampUnits (lo hi : Int) (r : Word16) : Int := max lo (min r.toInt hi)

/-- The feed table of a units index, in the order of R106. -/
def tableOf (p : Params) (u : Units) : FeedTable :=
  if u = 0#2 then p.tables.mmFeed
  else if u = 1#2 then p.tables.mmThread
  else if u = 2#2 then p.tables.inchFeed
  else p.tables.inchThread

/-- `TABLE_SIZE[u] - 1`, the last row index of a table (R165). -/
def lastRow (p : Params) (u : Units) : Nat := (tableOf p u).size - 1

/-- `rowidx(u, v)` (R163). -/
def rowIdx (p : Params) (u : Units) (v : RowIndex) : Nat := min v.toNat (lastRow p u)

/-- Row `i` of a table. Every read of the block has `i` in range (R163). -/
def rowOf (t : FeedTable) (i : Nat) : FeedRow := ((t.first :: t.others)[i]?).getD t.first

/-- `FeedTable[u][rowidx(u, v)]` (R163). -/
def feedRow (p : Params) (u : Units) (v : RowIndex) : FeedRow := rowOf (tableOf p u) (rowIdx p u v)

/-- The row of a selection. -/
def selectedRow (p : Params) (x : Selection) : FeedRow := feedRow p x.units x.value

/-- The code of a fault kind (R104). -/
def faultCode : FaultKind → BitVec 2
  | .none => 0#2
  | .tooManySteps => 1#2
  | .servoAlarm => 2#2

/-- The code of a UI state (R105). -/
def uiCode : UiState → BitVec 2
  | .idle => 0#2
  | .changeUnits => 1#2
  | .changeValue => 2#2
  | .fault => 3#2

/-- `GLYPH_DIGIT(n)` (R237). -/
def glyphDigit (g : Glyphs) (n : BitVec 2) : Byte :=
  if n = 0#2 then g.digit0 else if n = 1#2 then g.digit1 else if n = 2#2 then g.digit2 else g.digit3

/-- The click class, a thermometer code whose top class starts above `QUAD` (R95). -/
def clickClass (quad : Nat) (c : Byte) : BitVec 3 :=
  BitVec.ofBool (decide (quad < c.toNat)) ++ BitVec.ofBool (decide (2 ≤ c.toNat)) ++ BitVec.ofBool (decide (1 ≤ c.toNat))

/-- The UI transition word `{f, st, cc, to}` (R94). -/
def uitWord (f : Bool) (st : UiState) (cc : BitVec 3) (tmo : Bool) : BitVec 7 :=
  BitVec.ofBool f ++ uiCode st ++ cc ++ BitVec.ofBool tmo

/-- The LED mask of a units index (R106). -/
def ledMask (u : Units) : Byte := BitVec.ofNat 8 (2 ^ u.toNat)

/-- One sample of a counter debounce (R211, R221): the level after it and the run count after it. -/
def debounce (window : Nat) (level : Bool) (run : Nat) (sample : Bool) : Bool × Nat :=
  if sample = level then (level, 0)
  else if window ≤ run + 1 then (sample, 0)
  else (level, run + 1)

end Sys2Proof.Machine
end

