-- ==== Sys2Proof/Machine/State.lean ====
section
/-! DEFINITION. The state of the block: 10_state.md Table S in the groups its text names (synchronizer-private, shared,
UI-private, input unit, alarm unit), the environment-owned elements of the table, the values an unfinished composite
operation holds (R14), and what the environment presents. INVENTORY.md lists every field with its rule and reset value. -/

namespace Sys2Proof.Machine

/-- The synchronizer-private state (R21 to R26). -/
structure Sync where
  spindlePos : Word32
  servoPos : Word32
  lastRaw : Word16
  lastDelta : Word16
  cachedRatio : Word32
  cachedReverse : Bool
  cacheValid : Bool
deriving DecidableEq, Repr

/-- The fields that cross the context boundary (R27 to R29, R68). -/
structure Shared where
  ratio : Word32
  reverse : Bool
  fault : FaultKind
deriving DecidableEq, Repr

/-- The UI-private state (R30 to R34). -/
structure Ui where
  state : UiState
  active : Selection
  pending : Selection
  lastRot : Word16
  lastActivity : Word32
deriving DecidableEq, Repr

/-- The input unit: the rotary register and the click aggregator (R35, R36). -/
structure InputUnit where
  rot : Word16
  btnLevel : Bool
  btnRun : BitVec 6
  burstCnt : Byte
  burstAge : Byte
  clicksOut : Byte
deriving DecidableEq, Repr

/-- The alarm unit (R37). `level` is what the rules read as `alarm_db`. -/
structure AlarmUnit where
  level : Bool
  run : BitVec 4
deriving DecidableEq, Repr

/-- The values a `TICK` computes and uses (40_synchronizer.md, "Tick-local values"). No state of the block: they carry
the phases' results from one to the next (notes/assumptions/5.md). -/
structure TickLocals where
  rs : Word32
  rv : Bool
  delta : Word16
  filt : Bool
  target : Word32
  steps : Word32
  absSteps : Word32
deriving DecidableEq, Repr

/-- The values a `UICYC` samples and uses (41_ui_controller.md, "Cycle-local values"). `op` is the row of Table E4 that
`uit` selects. As `TickLocals`, but a `TICK` may run while they are held (R61). -/
structure UiLocals where
  c : Byte
  r : Word16
  t : Word32
  fs : FaultKind
  st : UiState
  uit : BitVec 7
  op : UiOp
deriving DecidableEq, Repr

/-- The levels at the block's inputs (R14, R140): the spindle encoder count, the actuator's idle status, the raw alarm
and the raw button. -/
structure Levels where
  raw : Word16
  idle : Bool
  alarmRaw : Bool
  btnRaw : Bool
deriving DecidableEq, Repr

/-- What can land between two atomic steps of a `UICYC` (R61): a whole `TICK`, with the levels it samples, or a
movement of the knob (R218). -/
inductive Interrupt where
  | tick (x : Levels)
  | knob (d : Word16)
deriving DecidableEq, Repr

/-- The Actuator, as far as its commands define it (R231 to R233): the direction set and the pulses that remain of the
train last ordered. Its idle status is `Levels.idle`. -/
structure Actuator where
  direction : Bool
  pulses : Byte
deriving DecidableEq, Repr

/-- The display registers the block writes (R66, R236): 0 to 3 the digit positions, 4 the LED mask. -/
structure Display where
  pos0 : Byte
  pos1 : Byte
  pos2 : Byte
  pos3 : Byte
  led : Byte
deriving DecidableEq, Repr

/-- One presentation by the environment (R90, R110): a word on a port, the levels at the inputs when it is presented,
and what lands at the successive boundaries inside it (one list per boundary). -/
structure Slot where
  port : Port
  word : PortWord
  levels : Levels
  landings : List (List Interrupt)
deriving DecidableEq, Repr

/-- The whole machine. -/
structure State where
  /-- The parameters, constant (R41, R292, R8). -/
  cfg : Params
  sync : Sync
  shared : Shared
  ui : Ui
  input : InputUnit
  alarm : AlarmUnit
  /-- The Tick Source's counter (R38). -/
  tickCount : Word32
  tl : TickLocals
  ul : UiLocals
  levels : Levels
  actuator : Actuator
  display : Display
  /-- The commands emitted since the event in progress was presented, oldest first. -/
  out : List Command
  /-- What the environment still presents, in order. -/
  slots : List Slot
  /-- What lands at the boundaries still ahead inside the event in progress. -/
  landings : List (List Interrupt)
deriving DecidableEq, Repr

/-- Why the machine stops with a fault: never. "There is no fatal/unrecoverable error class; any detected condition is
representable and clearable through this single mechanism" (R250), the latch `Shared.fault`. No constructor. -/
inductive Fault where
deriving DecidableEq, Repr

/-- Why an instruction has no meaning. -/
inductive Refusal where
  /-- Raised by an arm of `exec` for an instruction the model does not give a meaning. Safe: the run stops. -/
  | notModelled (mnemonic : String)
  /-- Raised by `step` for a presented word that its port's table has no row for (R108). Safe: the run stops. -/
  | reservedWord (e : DecodeError)
  /-- Raised by the meaning of `ACT.STEP` for `n = 0`, a word "the block never emits" (R97). Safe: the run stops. -/
  | stepCountZero
  /-- Raised by the meaning of `DSP.WRITE` for registers 5..7, reserved by R108. Safe: the run stops. -/
  | displayRegisterReserved
deriving DecidableEq, Repr

/-- The machine after reset with given parameters: the block's elements at the reset column of Table S (R20, R290), the
rest at the values INVENTORY.md names (notes/assumptions/4.md). -/
def State.initial (p : Params) : State where
  cfg := p
  sync :=
    { spindlePos := p.bias, servoPos := fxmul p.bias (selectedRow p p.defaults).ratio,
      lastRaw := 0#16, lastDelta := 0#16, cachedRatio := 0#32, cachedReverse := false, cacheValid := false }
  shared := { ratio := (selectedRow p p.defaults).ratio, reverse := p.defaults.reverse, fault := .none }
  ui := { state := .idle, active := p.defaults, pending := p.defaults, lastRot := 0#16, lastActivity := 0#32 }
  input := { rot := 0#16, btnLevel := false, btnRun := 0#6, burstCnt := 0#8, burstAge := 0#8, clicksOut := 0#8 }
  alarm := { level := false, run := 0#4 }
  tickCount := 0#32
  tl := { rs := 0#32, rv := false, delta := 0#16, filt := false, target := 0#32, steps := 0#32, absSteps := 0#32 }
  ul := { c := 0#8, r := 0#16, t := 0#32, fs := .none, st := .idle, uit := 0#7, op := .nopI }
  levels := { raw := 0#16, idle := true, alarmRaw := false, btnRaw := false }
  actuator := { direction := false, pulses := 0#8 }
  display := { pos0 := 0#8, pos1 := 0#8, pos2 := 0#8, pos3 := 0#8, led := 0#8 }
  out := []
  slots := []
  landings := []

/-- The machine right after reset (R290), with the parameters of `Config.params`. -/
def State.reset : State := State.initial Config.params

end Sys2Proof.Machine
end

