-- ==== Sys2Proof/Machine/Ops.lean ====
section
/-! DEFINITION. The named operations over the state: one setter per group of State, the commands on the output ports,
the rotary register, the fault latch (raise, entry on each side, clear) and the input presentation. Every meaning is
written over these. -/

namespace Sys2Proof.Machine

/-! ### Setters, one per group -/

def State.setSync (s : State) (x : Sync) : State := { s with sync := x }
def State.setShared (s : State) (x : Shared) : State := { s with shared := x }
def State.setUi (s : State) (x : Ui) : State := { s with ui := x }
def State.setInput (s : State) (x : InputUnit) : State := { s with input := x }
def State.setAlarm (s : State) (x : AlarmUnit) : State := { s with alarm := x }
def State.setTickCount (s : State) (x : Word32) : State := { s with tickCount := x }
def State.setTl (s : State) (x : TickLocals) : State := { s with tl := x }
def State.setUl (s : State) (x : UiLocals) : State := { s with ul := x }
def State.setLevels (s : State) (x : Levels) : State := { s with levels := x }
def State.setActuator (s : State) (x : Actuator) : State := { s with actuator := x }
def State.setDisplay (s : State) (x : Display) : State := { s with display := x }
def State.setOut (s : State) (x : List Command) : State := { s with out := x }
def State.setLandings (s : State) (x : List (List Interrupt)) : State := { s with landings := x }

/-! ### Output ports -/

/-- A command leaves the block. -/
def emit (c : Command) (s : State) : State := s.setOut (s.out ++ [c])

/-- `ACT.STOP` (R231): the train in progress is aborted. -/
def sendStop (s : State) : State := emit .actStop (s.setActuator { s.actuator with pulses := 0#8 })

/-- `ACT.DIR(d)` (R232). -/
def sendDir (d : Bool) (s : State) : State := emit (.actDir d) (s.setActuator { s.actuator with direction := d })

/-- `ACT.STEP(n)` (R233): a train of `n` pulses starts, and the actuator reports busy until the environment presents its
idle status again (notes/assumptions/6.md). -/
def sendStep (n : Byte) (s : State) : State :=
  emit (.actStep n) ((s.setActuator { s.actuator with pulses := n }).setLevels { s.levels with idle := false })

/-- `display[reg] <- val` (R236), for the registers the display has. -/
def Display.write (x : Display) (r : BitVec 3) (v : Byte) : Display :=
  if r = 0#3 then { x with pos0 := v }
  else if r = 1#3 then { x with pos1 := v }
  else if r = 2#3 then { x with pos2 := v }
  else if r = 3#3 then { x with pos3 := v }
  else if r = 4#3 then { x with led := v }
  else x

/-- `DSP.WRITE(r, v)` (R236). -/
def sendDisplay (r : BitVec 3) (v : Byte) (s : State) : State :=
  emit (.dspWrite r v) (s.setDisplay (s.display.write r v))

/-! ### The rotary register -/

/-- `ROT.SET(v)` (R217), a command the block emits (R14). -/
def rotSet (v : Word16) (s : State) : State := emit (.rotSet v) (s.setInput { s.input with rot := v })

/-- `ROT.MOVE(d)` (R218), by the environment. -/
def rotMove (d : Word16) (s : State) : State := s.setInput { s.input with rot := s.input.rot + d }

/-- The UI context's own write of the register: `ROT.SET(v)` and `last_rot <- v`, so that it is not seen as a rotary
change (R33, R167). -/
def placeKnob (v : Word16) (s : State) : State :=
  let s := rotSet v s
  s.setUi { s.ui with lastRot := v }

/-- `SEED_VALUE` (R178). -/
def seedValue (s : State) : State :=
  let i := BitVec.ofNat 15 (rowIdx s.cfg s.ui.active.units s.ui.active.value)
  let s := placeKnob (rotEncode i s.ui.active.reverse) s
  s.setUi { s.ui with pending := { s.ui.pending with value := i, reverse := s.ui.active.reverse } }

/-! ### The controller's state register -/

/-- `ui_state <- x` (R166). -/
def gotoUi (x : UiState) (s : State) : State := s.setUi { s.ui with state := x }

/-! ### The fault latch -/

/-- `raise Fault(kind)`, one blind store that aborts nothing (R252). -/
def raiseFault (k : FaultKind) (s : State) : State := s.setShared { s.shared with fault := k }

/-- Entry on the synchronizer side (R262, R139): the actuator is stopped and the cached ratio invalidated. Nothing is
saved. -/
def haltMotion (s : State) : State :=
  let s := sendStop s
  s.setSync { s.sync with cacheValid := false }

/-- Entry on the UI side (R264, R169): only the state is written. -/
def enterFault (s : State) : State := gotoUi .fault s

/-- The return (R265, R176): `fault <- None`, blind, and the controller goes to Idle. Nothing is restored. -/
def clearFault (s : State) : State := gotoUi .idle (s.setShared { s.shared with fault := .none })

/-! ### Presentation -/

/-- The environment drives the inputs (R14). -/
def present (x : Levels) (s : State) : State := s.setLevels x

end Sys2Proof.Machine
end

