-- ==== Sys2Proof/Machine/Inputs.lean ====
section
/-! DEFINITION. The input conditioning units (42_input_conditioning.md): `CA.SAMPLE`, `CA.READ`, `ROT.GET`, `ROT.SET`,
`ROT.MOVE`, `AL.SAMPLE`. -/

namespace Sys2Proof.Machine

/-- `CA.SAMPLE`, debounce part (R211): the button unit after a sample, and whether the sample is a click. -/
def buttonSample (window : Nat) (b : Bool) (x : InputUnit) : InputUnit × Bool :=
  let d := debounce window x.btnLevel x.btnRun.toNat b
  ({ x with btnLevel := d.1, btnRun := BitVec.ofNat 6 d.2 }, !x.btnLevel && d.1)

/-- `CA.SAMPLE`, aggregation part (R212). -/
def aggregate (window : Nat) (click : Bool) (x : InputUnit) : InputUnit :=
  if click then
    { x with burstCnt := BitVec.ofNat 8 (min (x.burstCnt.toNat + 1) Config.clickMax), burstAge := 0#8 }
  else if x.burstCnt = 0#8 then x
  else if window ≤ x.burstAge.toNat + 1 then { x with clicksOut := x.burstCnt, burstCnt := 0#8, burstAge := 0#8 }
  else { x with burstAge := BitVec.ofNat 8 (x.burstAge.toNat + 1) }

/-- `CA.SAMPLE(b)`: both parts, in one `TICK` (R211, R212). -/
def caSample (b : Bool) (s : State) : State :=
  let x := buttonSample s.cfg.debounceTicks b s.input
  s.setInput (aggregate s.cfg.aggTicks x.2 x.1)

/-- `CA.READ()` (R213): returned into `c`, its only user's local (R164), and cleared in one indivisible step. -/
def caRead (s : State) : State :=
  (s.setUl { s.ul with c := s.input.clicksOut }).setInput { s.input with clicksOut := 0#8 }

/-- `ROT.GET()` (R216), returned into `r`, its only user's local (R164). -/
def rotGet (s : State) : State := s.setUl { s.ul with r := s.input.rot }

/-- `AL.SAMPLE(a)` (R221). -/
def alSample (a : Bool) (s : State) : State :=
  let d := debounce s.cfg.alarmStable s.alarm.level s.alarm.run.toNat a
  s.setAlarm { level := d.1, run := BitVec.ofNat 4 d.2 }

def execCaSample (b : Bool) (s : State) : Host.Outcome State Fault Refusal := .next (caSample b s)
def execCaRead (s : State) : Host.Outcome State Fault Refusal := .next (caRead s)
def execRotGet (s : State) : Host.Outcome State Fault Refusal := .next (rotGet s)
def execRotSet (v : Word16) (s : State) : Host.Outcome State Fault Refusal := .next (rotSet v s)
def execRotMove (d : Word16) (s : State) : Host.Outcome State Fault Refusal := .next (rotMove d s)
def execAlSample (b : Bool) (s : State) : Host.Outcome State Fault Refusal := .next (alSample b s)

end Sys2Proof.Machine
end

