-- ==== Sys2Proof/Machine/Synchronizer.lean ====
section
/-! DEFINITION. The Position Synchronizer (40_synchronizer.md): the ten phases, each over the tick-local values, and the
composite operation `TICK` made of them. -/

namespace Sys2Proof.Machine

/-- `SYN.SAMPLE` (R130). -/
def synSample (s : State) : State := s.setTl { s.tl with rs := s.shared.ratio, rv := s.shared.reverse }

/-- `SYN.DELTA` (R131). -/
def synDelta (s : State) : State := s.setTl { s.tl with delta := spindleDelta s.levels.raw s.sync.lastRaw }

/-- `SYN.FILTER` (R132). -/
def synFilter (s : State) : State := s.setTl { s.tl with filt := jitter s.cfg.jitterThresh s.tl.delta s.sync.lastDelta }

/-- `SYN.ACCUM` (R133). -/
def synAccum (s : State) : State :=
  if s.tl.filt then s
  else s.setSync { s.sync with
    spindlePos := accumulate s.sync.spindlePos s.tl.delta, lastDelta := s.tl.delta, lastRaw := s.levels.raw }

/-- `trig` of SYN.REBASE (R134). -/
def rebaseDue (s : State) : Bool :=
  rebaseTrigger s.sync.cacheValid s.sync.cachedRatio s.tl.rs s.sync.cachedReverse s.tl.rv s.sync.spindlePos s.cfg.lowWater

/-- `SYN.REBASE` (R134). The delta is the measured one, also on a filtered tick (90_conflicts.md C6). -/
def synRebase (s : State) : State :=
  if rebaseDue s then
    s.setSync { s.sync with
      cachedRatio := s.tl.rs, cachedReverse := s.tl.rv, cacheValid := true,
      spindlePos := accumulate s.cfg.bias s.tl.delta, servoPos := fxmul s.cfg.bias s.tl.rs }
  else s

/-- `SYN.TARGET` (R135). -/
def synTarget (s : State) : State := s.setTl { s.tl with target := fxmul s.sync.spindlePos s.tl.rs }

/-- `SYN.STEPS` (R136). -/
def synSteps (s : State) : State :=
  let d := stepDifference s.tl.target s.sync.servoPos
  s.setTl { s.tl with steps := d, absSteps := absSteps d }

/-- `SYN.FCHK` (R137): in order, later wins. -/
def synFchk (s : State) : State :=
  let s := if overStepCap s.cfg.maxSteps s.tl.absSteps then raiseFault .tooManySteps s else s
  if s.alarm.level then raiseFault .servoAlarm s else s

/-- `SYN.ISSUE` (R138). -/
def synIssue (s : State) : State :=
  if latched s.shared.fault then s
  else if s.tl.steps ≠ 0#32 ∧ s.levels.idle = true then
    let s := sendStep (s.tl.absSteps.setWidth 8) (sendDir (stepDirection s.tl.steps s.tl.rv) s)
    s.setSync { s.sync with servoPos := s.sync.servoPos + s.tl.steps }
  else s

/-- `SYN.HALT` (R139). -/
def synHalt (s : State) : State := if latched s.shared.fault then haltMotion s else s

/-- The prologue of a `TICK` (R141 items 1 to 3): the tick counter, `AL.SAMPLE`, `CA.SAMPLE`. -/
def tickPrologue (s : State) : State :=
  let s := s.setTickCount (s.tickCount + 1#32)
  caSample s.levels.btnRaw (alSample s.levels.alarmRaw s)

/-- `TICK` (R141): the prologue and the ten phases, with nothing in between (R61). -/
def tick (s : State) : State :=
  let s := tickPrologue s
  let s := synSample s
  let s := synDelta s
  let s := synFilter s
  let s := synAccum s
  let s := synRebase s
  let s := synTarget s
  let s := synSteps s
  let s := synFchk s
  let s := synIssue s
  synHalt s

def execSynSample (s : State) : Host.Outcome State Fault Refusal := .next (synSample s)
def execSynDelta (s : State) : Host.Outcome State Fault Refusal := .next (synDelta s)
def execSynFilter (s : State) : Host.Outcome State Fault Refusal := .next (synFilter s)
def execSynAccum (s : State) : Host.Outcome State Fault Refusal := .next (synAccum s)
def execSynRebase (s : State) : Host.Outcome State Fault Refusal := .next (synRebase s)
def execSynTarget (s : State) : Host.Outcome State Fault Refusal := .next (synTarget s)
def execSynSteps (s : State) : Host.Outcome State Fault Refusal := .next (synSteps s)
def execSynFchk (s : State) : Host.Outcome State Fault Refusal := .next (synFchk s)
def execSynIssue (s : State) : Host.Outcome State Fault Refusal := .next (synIssue s)
def execSynHalt (s : State) : Host.Outcome State Fault Refusal := .next (synHalt s)

end Sys2Proof.Machine
end

