-- ==== Sys2Proof/Machine/Preemption.lean ====
section
/-! DEFINITION. The interleaving of the two contexts (R61): what runs between two atomic steps of a `UICYC`. -/

namespace Sys2Proof.Machine

/-- One landing: a whole `TICK` with the levels it samples, or a movement of the knob (R61, R218). -/
def land (x : Interrupt) (s : State) : State :=
  match x with
  | .tick l => tick (present l s)
  | .knob d => rotMove d s

/-- Zero or more landings, in order. -/
def landAll : List Interrupt → State → State
  | [], s => s
  | x :: xs, s => landAll xs (land x s)

/-- A boundary between two atomic steps: what the environment placed there lands. -/
def boundary (s : State) : State :=
  match s.landings with
  | [] => s
  | here :: later => landAll here (s.setLandings later)

end Sys2Proof.Machine
end

