-- ==== Sys2Proof/Machine/UiTransitions.lean ====
section
/-! DEFINITION. The transition operations of the UI / Selection Controller (41_ui_controller.md section 4), one per row
of Table E4, and `UI.TRANS`'s choice among them. -/

namespace Sys2Proof.Machine

/-- `UI.EDIT_UNITS` (R170). -/
def editUnits (s : State) : State :=
  let s := placeKnob (s.ui.active.units.setWidth 16) s
  let s := s.setUi { s.ui with pending := { s.ui.pending with units := s.ui.active.units } }
  gotoUi .changeUnits s

/-- `UI.EDIT_VALUE` (R171). -/
def editValue (s : State) : State := gotoUi .changeValue (seedValue s)

/-- `UI.COMMIT_UNITS` (R172): the seed uses the new units. -/
def commitUnits (s : State) : State :=
  let s := s.setUi { s.ui with active := { s.ui.active with units := s.ui.pending.units } }
  gotoUi .changeValue (seedValue s)

/-- `UI.COMMIT_VALUE` (R173). -/
def commitValue (s : State) : State :=
  let s := s.setUi { s.ui with
    active := { s.ui.active with value := s.ui.pending.value, reverse := s.ui.pending.reverse } }
  gotoUi .idle s

/-- `UI.TIMEOUT` (R174): discard is not promoting; only the state is written. -/
def timeoutEdit (s : State) : State := gotoUi .idle s

/-- The transition operation of a row (R166). `UI.FAULT_HOLD` and `UI.NOP` write nothing (R175, R177). -/
def performOp (x : UiOp) (s : State) : State :=
  match x with
  | .faultEnterI => enterFault s
  | .faultEnterU => enterFault s
  | .faultEnterV => enterFault s
  | .faultClear => clearFault s
  | .faultHold => s
  | .nopF => s
  | .editValue => editValue s
  | .editUnits => editUnits s
  | .nopI => s
  | .commitUnits => commitUnits s
  | .timeoutU => timeoutEdit s
  | .nopU => s
  | .commitValue => commitValue s
  | .timeoutV => timeoutEdit s
  | .nopV => s

def execUiFaultEnterI (s : State) : Host.Outcome State Fault Refusal := .next (enterFault s)
def execUiFaultEnterU (s : State) : Host.Outcome State Fault Refusal := .next (enterFault s)
def execUiFaultEnterV (s : State) : Host.Outcome State Fault Refusal := .next (enterFault s)
def execUiFaultClear (s : State) : Host.Outcome State Fault Refusal := .next (clearFault s)
def execUiFaultHold (s : State) : Host.Outcome State Fault Refusal := .next s
def execUiNopF (s : State) : Host.Outcome State Fault Refusal := .next s
def execUiEditValue (s : State) : Host.Outcome State Fault Refusal := .next (editValue s)
def execUiEditUnits (s : State) : Host.Outcome State Fault Refusal := .next (editUnits s)
def execUiNopI (s : State) : Host.Outcome State Fault Refusal := .next s
def execUiCommitUnits (s : State) : Host.Outcome State Fault Refusal := .next (commitUnits s)
def execUiTimeoutU (s : State) : Host.Outcome State Fault Refusal := .next (timeoutEdit s)
def execUiNopU (s : State) : Host.Outcome State Fault Refusal := .next s
def execUiCommitValue (s : State) : Host.Outcome State Fault Refusal := .next (commitValue s)
def execUiTimeoutV (s : State) : Host.Outcome State Fault Refusal := .next (timeoutEdit s)
def execUiNopV (s : State) : Host.Outcome State Fault Refusal := .next s

end Sys2Proof.Machine
end

