-- ==== Sys2Proof/Machine/UiPhases.lean ====
section
/-! DEFINITION. The seven phases of the UI / Selection Controller (41_ui_controller.md sections 3, 5 and 6), each over
the cycle-local values, and the composite operation `UICYC` made of them, with a boundary between any two of the steps
R161 lists. -/

namespace Sys2Proof.Machine

/-- The read of `tick_count` (R164). -/
def sampleTime (s : State) : State := s.setUl { s.ul with t := s.tickCount }

/-- The read of `fault` (R164). -/
def sampleFault (s : State) : State := s.setUl { s.ul with fs := s.shared.fault }

/-- `UI.SAMPLE` (R164): four reads, each once, a boundary between any two. -/
def uiSample (s : State) : State :=
  let s := boundary (caRead s)
  let s := boundary (rotGet s)
  let s := boundary (sampleTime s)
  sampleFault s

/-- `UI.ACTIVITY` (R167). -/
def uiActivity (s : State) : State :=
  let s := if activity s.ul.c s.ul.r s.ui.lastRot then s.setUi { s.ui with lastActivity := s.ul.t } else s
  s.setUi { s.ui with lastRot := s.ul.r }

/-- The transition word of the cycle (R94, R168). -/
def cycleWord (s : State) : BitVec 7 :=
  uitWord (latched s.ul.fs) s.ui.state (clickClass s.cfg.quad s.ul.c)
    (timedOut s.cfg.editTimeout s.ul.t s.ui.lastActivity)

/-- `UI.DECODE` (R168). -/
def uiDecode (s : State) : State :=
  s.setUl { s.ul with st := s.ui.state, uit := cycleWord s, op := uitSelect (cycleWord s) }

/-- The picked transition is a `UI.FAULT_ENTER` (R165). -/
def entersFault (x : UiOp) : Bool := x == .faultEnterI || x == .faultEnterU || x == .faultEnterV

/-- `UI.PEND` in ChangeUnits (R165): the signed register value itself is clamped. -/
def pendUnits (s : State) : State :=
  let v := clampUnits s.cfg.unitsMin s.cfg.unitsMax s.ul.r
  let s := if v = s.ul.r.toInt then s else placeKnob (BitVec.ofInt 16 v) s
  s.setUi { s.ui with pending := { s.ui.pending with units := BitVec.ofInt 2 v } }

/-- `UI.PEND` in ChangeValue (R165): the decoded magnitude is clamped, the sign kept. -/
def pendValue (s : State) : State :=
  let d := rotDecode s.ul.r
  let lim := lastRow s.cfg s.ui.active.units
  let mag := if lim < d.1.toNat then BitVec.ofNat 15 lim else d.1
  let s := if lim < d.1.toNat then placeKnob (rotEncode mag d.2) s else s
  s.setUi { s.ui with pending := { s.ui.pending with value := mag, reverse := d.2 } }

/-- `UI.PEND` (R165). -/
def uiPend (s : State) : State :=
  if entersFault s.ul.op then s
  else match s.ul.st with
    | .changeUnits => pendUnits s
    | .changeValue => pendValue s
    | .idle => s
    | .fault => s

/-- `UI.TRANS` (R166). -/
def uiTrans (s : State) : State := performOp s.ul.op s

/-- What a cycle shows: the four digits, leftmost first, and the LED mask. -/
structure Picture where
  d3 : Byte
  d2 : Byte
  d1 : Byte
  d0 : Byte
  led : Byte
deriving DecidableEq, Repr

/-- `du` (R180). -/
def displayUnits (s : State) : Units :=
  if s.ui.state = .changeUnits then s.ui.pending.units else s.ui.active.units

/-- `led` (R184). -/
def ledOf (s : State) : Byte :=
  if s.ui.state = .changeUnits ∧ flashDark s.cfg.flashBit s.ul.t = true then 0#8 else ledMask (displayUnits s)

/-- The sign marker of a row (R182, R183). -/
def signGlyph (g : Glyphs) (rev : Bool) : Byte := if rev then g.minus else g.blank

/-- A row's digits with its sign marker (R182, R183). -/
def rowPicture (g : Glyphs) (rev : Bool) (x : FeedRow) (led : Byte) : Picture :=
  { d3 := signGlyph g rev, d2 := x.digit100, d1 := x.digit10, d0 := x.digit1, led := led }

/-- Four blank digits. -/
def blankPicture (g : Glyphs) (led : Byte) : Picture :=
  { d3 := g.blank, d2 := g.blank, d1 := g.blank, d0 := g.blank, led := led }

/-- The digits of the Fault state (R181). -/
def faultPicture (g : Glyphs) (k : FaultKind) (led : Byte) : Picture :=
  { d3 := g.minus, d2 := glyphDigit g (faultCode k), d1 := g.err, d0 := g.minus, led := led }

/-- What the cycle renders (R180 to R184). -/
def picture (s : State) : Picture :=
  let g := s.cfg.glyphs
  match s.ui.state with
  | .fault => if flashDark s.cfg.flashBit s.ul.t then blankPicture g (ledOf s) else faultPicture g s.ul.fs (ledOf s)
  | .changeValue =>
    if flashDark s.cfg.flashBit s.ul.t then blankPicture g (ledOf s)
    else rowPicture g s.ui.pending.reverse (feedRow s.cfg s.ui.active.units s.ui.pending.value) (ledOf s)
  | .idle => rowPicture g s.ui.active.reverse (feedRow s.cfg (displayUnits s) s.ui.active.value) (ledOf s)
  | .changeUnits => rowPicture g s.ui.active.reverse (feedRow s.cfg (displayUnits s) s.ui.active.value) (ledOf s)

/-- The five writes of R185, in its order, a boundary between any two. -/
def showPicture (x : Picture) (s : State) : State :=
  let s := boundary (sendDisplay 3#3 x.d3 s)
  let s := boundary (sendDisplay 2#3 x.d2 s)
  let s := boundary (sendDisplay 1#3 x.d1 s)
  let s := boundary (sendDisplay 0#3 x.d0 s)
  sendDisplay 4#3 x.led s

/-- `UI.RENDER` (R180 to R185). -/
def uiRender (s : State) : State := showPicture (picture s) s

/-- The write of `ratio` (R186). -/
def outputRatio (s : State) : State :=
  s.setShared { s.shared with ratio := (selectedRow s.cfg s.ui.active).ratio }

/-- The write of `reverse` (R186). -/
def outputReverse (s : State) : State := s.setShared { s.shared with reverse := s.ui.active.reverse }

/-- `UI.OUTPUT` (R186): `ratio` first, a boundary, then `reverse`. -/
def uiOutput (s : State) : State := outputReverse (boundary (outputRatio s))

/-- `UICYC` (R161): the seven phases, a boundary between any two (R61). -/
def uicyc (s : State) : State :=
  let s := boundary (uiSample s)
  let s := boundary (uiActivity s)
  let s := boundary (uiDecode s)
  let s := boundary (uiPend s)
  let s := boundary (uiTrans s)
  let s := boundary (uiRender s)
  uiOutput s

def execUiSample (s : State) : Host.Outcome State Fault Refusal := .next (uiSample s)
def execUiActivity (s : State) : Host.Outcome State Fault Refusal := .next (uiActivity s)
def execUiDecode (s : State) : Host.Outcome State Fault Refusal := .next (uiDecode s)
def execUiPend (s : State) : Host.Outcome State Fault Refusal := .next (uiPend s)
def execUiTrans (s : State) : Host.Outcome State Fault Refusal := .next (uiTrans s)
def execUiRender (s : State) : Host.Outcome State Fault Refusal := .next (uiRender s)
def execUiOutput (s : State) : Host.Outcome State Fault Refusal := .next (uiOutput s)

end Sys2Proof.Machine
end

