-- ==== Sys2Proof/Machine/Events.lean ====
section
/-! DEFINITION. The event vector's operations (30_encoding.md Table E1, R91): `RESET`, `NOEVENT`, `UICYC`, `TICK` and
`TICK_UICYC`. -/

namespace Sys2Proof.Machine

/-- `RESET` (R290): every element of Table S but those the environment owns goes to its reset column, in one step. It
emits nothing, and the actuator, the display and the input levels are as they were (R291). -/
def resetBlock (s : State) : State :=
  { s with
    sync := (State.initial s.cfg).sync
    shared := (State.initial s.cfg).shared
    ui := (State.initial s.cfg).ui
    input := (State.initial s.cfg).input
    alarm := (State.initial s.cfg).alarm
    tickCount := (State.initial s.cfg).tickCount }

def execReset (s : State) : Host.Outcome State Fault Refusal := .next (resetBlock s)

/-- `NOEVENT`: nothing runs, no state changes (R91). -/
def execNoevent (s : State) : Host.Outcome State Fault Refusal := .next s

def execUicyc (s : State) : Host.Outcome State Fault Refusal := .next (uicyc s)

def execTick (s : State) : Host.Outcome State Fault Refusal := .next (tick s)

/-- `TICK_UICYC`: the `TICK` runs first and completes, then the `UICYC` starts (R91, R260). -/
def execTickUicyc (s : State) : Host.Outcome State Fault Refusal := .next (uicyc (tick s))

end Sys2Proof.Machine
end

