-- ==== Sys2Proof/Machine/Outputs.lean ====
section
/-! DEFINITION. The output commands as instructions (43_output_commands.md): the word on the port, with the effect the
spec gives it on the actuator or the display. -/

namespace Sys2Proof.Machine

/-- `ACT.NONE`: no command this tick (R234). -/
def execActNone (s : State) : Host.Outcome State Fault Refusal := .next s

/-- `ACT.STOP` (R231). -/
def execActStop (s : State) : Host.Outcome State Fault Refusal := .next (sendStop s)

/-- `ACT.DIR` (R232). -/
def execActDir (d : Bool) (s : State) : Host.Outcome State Fault Refusal := .next (sendDir d s)

/-- `ACT.STEP` (R233), `n` in 1..255. `n = 0` is no command (R97, 93_implementation_defined.md section 1: `refuse`). -/
def execActStep (n : Byte) (s : State) : Host.Outcome State Fault Refusal :=
  if n = 0#8 then .refused .stepCountZero else .next (sendStep n s)

/-- `DSP.WRITE` (R236), registers 0..4. Registers 5..7 are reserved (R108). -/
def execDspWrite (r : BitVec 3) (v : Byte) (s : State) : Host.Outcome State Fault Refusal :=
  if r.toNat ≤ 4 then .next (sendDisplay r v s) else .refused .displayRegisterReserved

end Sys2Proof.Machine
end

