-- ==== Sys2Proof/Machine/Dispatch.lean ====
section
/-! DEFINITION. One arm per constructor of Instr, each one call of its meaning. -/

namespace Sys2Proof.Machine

def exec (i : Instr) (s : State) : Host.Outcome State Fault Refusal :=
  match i with
  | .reset => Sys2Proof.Machine.execReset s
  | .noevent => Sys2Proof.Machine.execNoevent s
  | .uicyc => Sys2Proof.Machine.execUicyc s
  | .tick => Sys2Proof.Machine.execTick s
  | .tickUicyc => Sys2Proof.Machine.execTickUicyc s
  | .synSample => Sys2Proof.Machine.execSynSample s
  | .synDelta => Sys2Proof.Machine.execSynDelta s
  | .synFilter => Sys2Proof.Machine.execSynFilter s
  | .synAccum => Sys2Proof.Machine.execSynAccum s
  | .synRebase => Sys2Proof.Machine.execSynRebase s
  | .synTarget => Sys2Proof.Machine.execSynTarget s
  | .synSteps => Sys2Proof.Machine.execSynSteps s
  | .synFchk => Sys2Proof.Machine.execSynFchk s
  | .synIssue => Sys2Proof.Machine.execSynIssue s
  | .synHalt => Sys2Proof.Machine.execSynHalt s
  | .uiSample => Sys2Proof.Machine.execUiSample s
  | .uiActivity => Sys2Proof.Machine.execUiActivity s
  | .uiDecode => Sys2Proof.Machine.execUiDecode s
  | .uiPend => Sys2Proof.Machine.execUiPend s
  | .uiTrans => Sys2Proof.Machine.execUiTrans s
  | .uiRender => Sys2Proof.Machine.execUiRender s
  | .uiOutput => Sys2Proof.Machine.execUiOutput s
  | .uiFaultEnterI => Sys2Proof.Machine.execUiFaultEnterI s
  | .uiFaultEnterU => Sys2Proof.Machine.execUiFaultEnterU s
  | .uiFaultEnterV => Sys2Proof.Machine.execUiFaultEnterV s
  | .uiFaultClear => Sys2Proof.Machine.execUiFaultClear s
  | .uiFaultHold => Sys2Proof.Machine.execUiFaultHold s
  | .uiNopF => Sys2Proof.Machine.execUiNopF s
  | .uiEditValue => Sys2Proof.Machine.execUiEditValue s
  | .uiEditUnits => Sys2Proof.Machine.execUiEditUnits s
  | .uiNopI => Sys2Proof.Machine.execUiNopI s
  | .uiCommitUnits => Sys2Proof.Machine.execUiCommitUnits s
  | .uiTimeoutU => Sys2Proof.Machine.execUiTimeoutU s
  | .uiNopU => Sys2Proof.Machine.execUiNopU s
  | .uiCommitValue => Sys2Proof.Machine.execUiCommitValue s
  | .uiTimeoutV => Sys2Proof.Machine.execUiTimeoutV s
  | .uiNopV => Sys2Proof.Machine.execUiNopV s
  | .actNone => Sys2Proof.Machine.execActNone s
  | .actStop => Sys2Proof.Machine.execActStop s
  | .actDir d => Sys2Proof.Machine.execActDir d s
  | .actStep n => Sys2Proof.Machine.execActStep n s
  | .dspWrite r v => Sys2Proof.Machine.execDspWrite r v s
  | .rotGet => Sys2Proof.Machine.execRotGet s
  | .rotSet v => Sys2Proof.Machine.execRotSet v s
  | .rotMove d => Sys2Proof.Machine.execRotMove d s
  | .caSample b => Sys2Proof.Machine.execCaSample b s
  | .caRead => Sys2Proof.Machine.execCaRead s
  | .alSample b => Sys2Proof.Machine.execAlSample b s

end Sys2Proof.Machine
end

