-- ==== Sys2Proof/Machine/Fetch.lean ====
section
/-! DEFINITION. How a presentation of the environment reaches the block (R90, R110). -/

namespace Sys2Proof.Machine

/-- No presentation: the record of emitted commands is of this event alone. -/
def quiet (s : State) : State := s.setOut []

/-- The presentation `x` is taken: its levels are at the inputs, its landings are ahead, and nothing is emitted yet. -/
def accept (x : Slot) (rest : List Slot) (s : State) : State :=
  { present x.levels s with slots := rest, landings := x.landings, out := [] }

/-- A word of spec/opcode_table.json as a presentation: on the port the decoder reads it on, or on `EV` if no port of
that many bytes has a row for it. -/
def slotOfTableWord (levels : Levels) (nbits w : Nat) : Slot where
  port := (portOfTableWord nbits w).getD .ev
  word := BitVec.ofNat 24 w
  levels := levels
  landings := []

end Sys2Proof.Machine
end

