-- ==== Sys2Proof/Machine/Step.lean ====
section
/-! DEFINITION. One step: the next presentation is taken from the environment, its word decoded and executed. -/

namespace Sys2Proof.Machine

/-- With nothing presented the event vector is `000`, `NOEVENT` (R91). A presented word that is no instruction stops the
step by name. -/
def step (s : State) : Host.Outcome State Fault Refusal :=
  match s.slots with
  | [] => exec .noevent (quiet s)
  | x :: rest =>
    match decode x.port x.word with
    | .ok i => exec i (accept x rest s)
    | .error e => .refused (.reservedWord e)

/-- The word, presented next, with the levels the inputs have now and nothing landing inside it (notes/assumptions/3.md). -/
def State.withFetchWord (s : State) (nbits w : Nat) : State :=
  { s with slots := slotOfTableWord s.levels nbits w :: s.slots }

end Sys2Proof.Machine
end

