-- ==== Sys2Proof/Safety.lean ====
section
/-! DEFINITION. The terms claims are stated in: chains of instructions, the transition table in words, and the invariant
of a run whose environment presents only what an environment can present (R90). -/

namespace Sys2Proof.Machine

/-- One instruction after another, stopping at the first that does not answer a next state. -/
def execAll : List Instr → State → Host.Outcome State Fault Refusal
  | [], s => .next s
  | i :: is, s =>
    match exec i s with
    | .next t => execAll is t
    | .fault r => .fault r
    | .refused r => .refused r

/-- The ten phases of a `TICK`, in the order of Table E2 (R92). -/
def tickPhases : List Instr :=
  [.synSample, .synDelta, .synFilter, .synAccum, .synRebase, .synTarget, .synSteps, .synFchk, .synIssue, .synHalt]

/-- The seven phases of a `UICYC`, in the order of Table E3 (R93). -/
def uiPhases : List Instr := [.uiSample, .uiActivity, .uiDecode, .uiPend, .uiTrans, .uiRender, .uiOutput]

/-- A row of Table E4 (R96): every transition word that matches is the instruction. -/
def UitRow (mask pat : BitVec 7) (i : Instr) : Prop :=
  ∀ w : BitVec 7, w &&& mask = pat → decode .uit (w.setWidth 24) = .ok i

/-- Table T in words (R187): the row for a state, the sampled fault flag, the click count and the timeout condition;
`quad` is the count above which Fault is left. -/
def tableT (quad : Nat) (st : UiState) (faulted : Bool) (c : Nat) (tmo : Bool) : UiOp :=
  match st, faulted with
  | .idle, true => .faultEnterI
  | .changeUnits, true => .faultEnterU
  | .changeValue, true => .faultEnterV
  | .idle, false => if c = 0 then .nopI else if c = 1 then .editValue else .editUnits
  | .changeUnits, false => if 1 ≤ c then .commitUnits else if tmo then .timeoutU else .nopU
  | .changeValue, false => if 1 ≤ c then .commitValue else if tmo then .timeoutV else .nopV
  | .fault, _ => if quad < c then .faultClear else if 1 ≤ c then .faultHold else .nopF

/-- The re-baseline trigger of R134 in words, with `pos` the position that SYN.ACCUM leaves. -/
def RebaseDemanded (s : State) (rs : Word32) (rv : Bool) (pos : Nat) : Prop :=
  s.sync.cacheValid = false ∨ s.sync.cachedRatio ≠ rs ∨ s.sync.cachedReverse ≠ rv ∨ pos < s.cfg.lowWater.toNat

/-- A run of `TICK`s, one per element of the list, from `s` to `t`, none filtered and none re-baselined, whose deltas
sum to `d` (R146). -/
def SteadyTicks : List Levels → State → Int → State → Prop
  | [], s, d, t => d = 0 ∧ t = s
  | x :: xs, s, d, t =>
    ∃ (u : State) (e : Int), exec .tick (present x s) = .next u ∧ u.tl.filt = false ∧
      ¬ RebaseDemanded s s.shared.ratio s.shared.reverse
        (((s.sync.spindlePos.toNat : Int) + u.tl.delta.toInt) % 2 ^ 32).toNat ∧
      SteadyTicks xs u e t ∧ d = u.tl.delta.toInt + e

/-- What lands at one boundary (R61, R218): a whole `TICK` with the levels it samples, or a movement of the knob, each
the instruction of that name, one after the other. -/
def Landed : List Interrupt → State → State → Prop
  | [], s, t => t = s
  | .tick x :: xs, s, t => ∃ u, exec .tick { s with levels := x } = .next u ∧ Landed xs u t
  | .knob d :: xs, s, t => ∃ u, exec (.rotMove d) s = .next u ∧ Landed xs u t

/-- A boundary between two atomic steps: nothing is ahead and nothing happens, or what is ahead next lands. -/
def Boundary (s t : State) : Prop :=
  (s.landings = [] ∧ t = s) ∨
    ∃ here later, s.landings = here :: later ∧ Landed here { s with landings := later } t

/-- One instruction after another, with a boundary between any two (R61). -/
def Interleaved : List Instr → State → State → Prop
  | [], s, t => t = s
  | [i], s, t => exec i s = .next t
  | i :: j :: is, s, t => ∃ u v, exec i s = .next u ∧ Boundary u v ∧ Interleaved (j :: is) v t

/-- A run of button samples in which the debounced level never rises, so that none is a click (R211). -/
def NoClick : List Bool → State → Prop
  | [], _ => True
  | b :: bs, s =>
    ∃ u, exec (.caSample b) s = .next u ∧ ¬ (s.input.btnLevel = false ∧ u.input.btnLevel = true) ∧ NoClick bs u

/-- The position that `SYN.ACCUM` leaves in a tick with this filter result and delta (R133). -/
def positionAfterAccum (s : State) (filt : Bool) (delta : Int) : Nat :=
  if filt = true then s.sync.spindlePos.toNat else (((s.sync.spindlePos.toNat : Int) + delta) % 2 ^ 32).toNat

/-- What the scheduler and the knob can present (R90, R98): an event vector, or a movement of the rotary register. -/
def Presentable (x : Slot) : Prop := x.port = .ev ∨ x.port = .env

/-- The invariant of the block between events. -/
structure BlockInv (s : State) : Prop where
  /-- The parameters meet their constraints (92_eei_decisions.md section 7). -/
  lowWaterOk : s.cfg.lowWaterOk = true
  windowsOk : s.cfg.windowsOk = true
  fixedOk : s.cfg.fixedOk = true
  /-- R49. -/
  faultShown : s.ui.state = .fault → s.shared.fault ≠ .none
  /-- While a fault is latched the cached ratio is invalid, so that the next tick re-baselines (R72, R148). -/
  cacheHalted : s.shared.fault ≠ .none → s.sync.cacheValid = false
  /-- R45. -/
  ratioCommitted : s.shared.ratio = (selectedRow s.cfg s.ui.active).ratio
  reverseCommitted : s.shared.reverse = s.ui.active.reverse
  /-- R32. -/
  pendingInRange : s.ui.state = .changeValue → s.ui.pending.value.toNat ≤ lastRow s.cfg s.ui.active.units
  /-- R305: between ticks the accumulator is at or above the low-water mark, if a fresh baseline is. -/
  aboveLowWater : s.cfg.lowWater.toNat ≤ 0x7FFF8000 → s.cfg.lowWater.toNat ≤ s.sync.spindlePos.toNat
  /-- The run counters stay below the count that ends them (R36, R37). -/
  btnRunning : s.input.btnRun.toNat < s.cfg.debounceTicks
  burstOpen : s.input.burstAge.toNat < s.cfg.aggTicks
  alarmRunning : s.alarm.run.toNat < s.cfg.alarmStable
  /-- Only event vectors and knob movements are presented. -/
  presentable : ∀ x ∈ s.slots, Presentable x

end Sys2Proof.Machine
end

