-- ==== Sys2Proof/Certificates/Slice0/Obligations.lean ====
section
/-! DEFINITION. The statements for the provers. Each docstring names the rule of spec/ it formalises; OBLIGATIONS.json
lists them. Parameters of Table P stand by name; where a rule gives a number, the statement says that the reference
machine's parameter is that number, and holds for every machine (notes/assumptions/13.md). The tick-local and cycle-local
values, the emitted-command record and the landings are the model's carriers (notes/assumptions/5.md, 7.md, 8.md). -/

open Sys2Proof Sys2Proof.Machine

/-! ### Words and ports -/

/-- Every well-formed instruction's word, on its port, decodes to that instruction (Tables E1 to E6). -/
def Obligations.DecodeOfEncodeIsTheInstruction : Prop :=
  ∀ i : Instr, i.wellFormed = true → decode i.port (encode i) = .ok i

/-- What a port decodes is a well-formed instruction of that port, and on the ports whose tables have no don't-care bit
its word is the one presented (R90, R97, R98). -/
def Obligations.DecodedInstructionBelongsToItsPort : Prop :=
  ∀ (p : Port) (w : PortWord) (i : Instr), decode p w = .ok i →
    i.port = p ∧ i.wellFormed = true ∧ (p ≠ .ev → p ≠ .uit → p ≠ .rot → encode i = w)

/-- The reserved words of each port have no instruction: R97's actuator words, `tph` 10..15, `uph` 7, display
registers 5..7 (R108). Every other word of those ports has one. -/
def Obligations.ReservedWordsAreRejected : Prop :=
  ∀ w : PortWord,
    (w.toNat < 1024 →
      (decode .act w = .error (.reserved .act) ↔
        (w.toNat / 256 ≤ 1 ∧ w.toNat % 256 ≠ 0) ∨ (w.toNat / 256 = 2 ∧ 2 ≤ w.toNat % 256) ∨ w.toNat = 768)) ∧
    (w.toNat < 16 → (decode .tickSeq w = .error (.reserved .tickSeq) ↔ 10 ≤ w.toNat)) ∧
    (w.toNat < 8 → (decode .uiSeq w = .error (.reserved .uiSeq) ↔ w.toNat = 7)) ∧
    (w.toNat < 2048 → (decode .dsp w = .error (.reserved .dsp) ↔ 5 ≤ w.toNat / 256)) ∧
    (∀ p : Port, 2 ^ p.width ≤ w.toNat → decode p w = .error (.tooWide p))

/-- Words written out from the tables decode to the instructions they stand for; every event vector is defined and
`rst` wins (R91). -/
def Obligations.WordsOfTheTablesDecode : Prop :=
  (∀ w : PortWord, w.toNat < 8 →
    decode .ev w = .ok (if 4 ≤ w.toNat then .reset else if w.toNat = 3 then .tickUicyc
      else if w.toNat = 2 then .tick else if w.toNat = 1 then .uicyc else .noevent)) ∧
  decode .tickSeq 0x4#24 = .ok .synRebase ∧ decode .uiSeq 0x6#24 = .ok .uiOutput ∧
  decode .uit 0x4E#24 = .ok .uiFaultEnterI ∧ decode .uit 0x76#24 = .ok .uiFaultHold ∧
  decode .act 0x3FF#24 = .ok (.actStep 255#8) ∧ decode .act 0x201#24 = .ok (.actDir true) ∧
  decode .dsp 0x404#24 = .ok (.dspWrite 4#3 0x04#8) ∧ decode .rot 0x1FFFA#24 = .ok (.rotSet 0xFFFA#16) ∧
  decode .env 0xFFF9#24 = .ok (.rotMove 0xFFF9#16)

/-! ### The step -/

/-- A presented word that decodes is executed, with its levels at the inputs, its landings ahead, the presentation
taken and the record of emitted commands empty; the model's own presentation (notes/assumptions/7.md, 8.md). -/
def Obligations.StepRunsTheDecodedInstruction : Prop :=
  ∀ (s : State) (x : Slot) (rest : List Slot) (i : Instr), s.slots = x :: rest → decode x.port x.word = .ok i →
    step s = exec i { s with slots := rest, levels := x.levels, landings := x.landings, out := [] }

/-- With nothing presented a step is `NOEVENT` and changes nothing but the record of emitted commands; a reserved word
stops by name (R91, notes/assumptions/7.md). -/
def Obligations.StepWithoutAnInstruction : Prop :=
  (∀ s : State, s.slots = [] → step s = .next { s with out := [] }) ∧
  (∀ (s : State) (x : Slot) (rest : List Slot) (e : DecodeError), s.slots = x :: rest →
    decode x.port x.word = .error e → step s = .refused (.reservedWord e))

/-! ### Reset and the event vector -/

/-- `RESET` sets every element of Table S to its reset column, emits nothing, and leaves the environment's elements
(R290). `ratio_reset` is the ratio of the default row, clamped (R20). -/
def Obligations.ResetSetsEveryElement : Prop :=
  State.reset.cfg.bias = 0x80000000#32 ∧
  (∀ w : PortWord, 4 ≤ w.toNat → w.toNat < 8 → decode .ev w = .ok .reset) ∧ ∀ s : State,
    ∃ t, exec .reset s = .next t ∧
    t = { s with sync := t.sync, shared := t.shared, ui := t.ui, input := t.input, alarm := t.alarm,
                 tickCount := 0#32 } ∧
    t.sync = { spindlePos := s.cfg.bias, servoPos := t.sync.servoPos, lastRaw := 0#16, lastDelta := 0#16,
               cachedRatio := 0#32, cachedReverse := false, cacheValid := false } ∧
    t.sync.servoPos.toNat = s.cfg.bias.toNat * t.shared.ratio.toNat / 65536 % 2 ^ 32 ∧
    t.shared = { ratio := (feedRow s.cfg s.cfg.defaults.units s.cfg.defaults.value).ratio,
                 reverse := s.cfg.defaults.reverse, fault := .none } ∧
    t.ui = { state := .idle, active := s.cfg.defaults, pending := s.cfg.defaults, lastRot := 0#16,
             lastActivity := 0#32 } ∧
    t.input = { rot := 0#16, btnLevel := false, btnRun := 0#6, burstCnt := 0#8, burstAge := 0#8, clicksOut := 0#8 } ∧
    t.alarm = { level := false, run := 0#4 }

/-- The model's reset state is one that `RESET` gives, with the values of Table P in every row that has one (R8), nothing
presented and nothing emitted. The values of the elements the environment owns are not part of it. -/
def Obligations.ResetStateIsWhatResetGives : Prop :=
  exec .reset State.reset = .next State.reset ∧
  State.reset.cfg.defaults = { units := 0#2, value := 0#15, reverse := false } ∧
  State.reset.cfg.lowWater = 0x00010000#32 ∧ State.reset.cfg.debounceTicks = 50 ∧ State.reset.cfg.aggTicks = 250 ∧
  State.reset.cfg.alarmStable = 10 ∧ State.reset.cfg.tickPeriodMs = 1 ∧ State.reset.cfg.uiPeriodTicks = 10 ∧
  State.reset.cfg.bias = 0x80000000#32 ∧ State.reset.cfg.jitterThresh = 10 ∧ State.reset.cfg.maxSteps = 255 ∧
  State.reset.cfg.unitsMin = 0 ∧ State.reset.cfg.unitsMax = 3 ∧ State.reset.cfg.editTimeout = 5000 ∧
  State.reset.cfg.quad = 3 ∧ State.reset.cfg.flashBit = 7 ∧
  State.reset.cfg.widths = { enc := 16, pos := 32, ratio := 32, dig := 8, tick := 32, rot := 16, val := 15, click := 8 } ∧
  State.reset.cfg.fixedOk = true ∧ State.reset.slots = [] ∧ State.reset.out = []

/-- `NOEVENT` changes nothing; a `TICK` is its prologue and the ten phases in order, once each; a `UICYC` is its seven
phases in order, once each, and what lands at each boundary between two is whole `TICK`s with their own levels and knob
movements (R61); with nothing landing, it is the phases alone; `TICK_UICYC` is the `TICK`, completed, then the `UICYC`
(R91, R92, R93, R141, R161). -/
def Obligations.CompositeEventsRunTheirPhases : Prop :=
  decode .ev 0#24 = .ok .noevent ∧ decode .ev 1#24 = .ok .uicyc ∧ decode .ev 2#24 = .ok .tick ∧
  decode .ev 3#24 = .ok .tickUicyc ∧ ∀ s : State,
    exec .noevent s = .next s ∧
    (∃ t, exec .tick s = .next t ∧
      execAll (.alSample s.levels.alarmRaw :: .caSample s.levels.btnRaw :: tickPhases)
        { s with tickCount := BitVec.ofNat 32 (s.tickCount.toNat + 1) } = .next t) ∧
    (∃ t, exec .uicyc s = .next t ∧ Interleaved uiPhases s t) ∧
    (s.landings = [] → ∃ t, exec .uicyc s = .next t ∧ execAll uiPhases s = .next t) ∧
    (∃ u t, exec .tick s = .next u ∧ exec .uicyc u = .next t ∧ exec .tickUicyc s = .next t)

/-! ### The phases of the synchronizer -/

/-- `SYN.SAMPLE` copies the shared pair into the tick's own values (R130). -/
def Obligations.SynSampleCopiesTheSharedPair : Prop :=
  decode .tickSeq 0#24 = .ok .synSample ∧ ∀ s : State,
    exec .synSample s = .next { s with tl := { s.tl with rs := s.shared.ratio, rv := s.shared.reverse } }

/-- `SYN.DELTA`: the signed 16-bit value congruent to `raw - last_raw` (R131, R103). It writes no state. -/
def Obligations.SynDeltaIsTheWrappedDifference : Prop :=
  decode .tickSeq 1#24 = .ok .synDelta ∧ ∀ s : State,
    ∃ t, exec .synDelta s = .next t ∧ t = { s with tl := { s.tl with delta := t.tl.delta } } ∧
    -32768 ≤ t.tl.delta.toInt ∧ t.tl.delta.toInt ≤ 32767 ∧
    (t.tl.delta.toInt - ((s.levels.raw.toNat : Int) - (s.sync.lastRaw.toNat : Int))) % 65536 = 0

/-- `SYN.FILTER`: strictly opposite signs and a magnitude under `JITTER_THRESH`, 10 (R132). It writes no state. -/
def Obligations.SynFilterDropsSmallReversals : Prop :=
  decode .tickSeq 2#24 = .ok .synFilter ∧ State.reset.cfg.jitterThresh = 10 ∧ ∀ s : State,
    ∃ t, exec .synFilter s = .next t ∧ t = { s with tl := { s.tl with filt := t.tl.filt } } ∧
    (t.tl.filt = true ↔
      ((0 < s.tl.delta.toInt ∧ s.sync.lastDelta.toInt < 0) ∨ (s.tl.delta.toInt < 0 ∧ 0 < s.sync.lastDelta.toInt)) ∧
        -(s.cfg.jitterThresh : Int) < s.tl.delta.toInt ∧ s.tl.delta.toInt < (s.cfg.jitterThresh : Int))

/-- `SYN.ACCUM`: three writes, only on a tick that is not filtered (R133). -/
def Obligations.SynAccumAddsAcceptedMotion : Prop :=
  decode .tickSeq 3#24 = .ok .synAccum ∧ ∀ s : State,
    (s.tl.filt = true → exec .synAccum s = .next s) ∧
    (s.tl.filt = false → ∃ t, exec .synAccum s = .next t ∧
      t = { s with sync := { s.sync with
              spindlePos := t.sync.spindlePos, lastDelta := s.tl.delta, lastRaw := s.levels.raw } } ∧
      (t.sync.spindlePos.toNat : Int) = ((s.sync.spindlePos.toNat : Int) + s.tl.delta.toInt) % 2 ^ 32)

/-- `SYN.REBASE`: on the trigger the pair is cached, the spindle goes to `BIAS + delta` (which cannot wrap from the `BIAS`
of Table P) and the servo to the scaled bias; otherwise nothing changes (R134). -/
def Obligations.SynRebaseSetsTheBaseline : Prop :=
  decode .tickSeq 4#24 = .ok .synRebase ∧ State.reset.cfg.bias = 0x80000000#32 ∧
  State.reset.cfg.lowWater = 0x00010000#32 ∧ ∀ s : State,
    (RebaseDemanded s s.tl.rs s.tl.rv s.sync.spindlePos.toNat → ∃ t, exec .synRebase s = .next t ∧
      t = { s with sync := { s.sync with
              cachedRatio := s.tl.rs, cachedReverse := s.tl.rv, cacheValid := true,
              spindlePos := t.sync.spindlePos, servoPos := t.sync.servoPos } } ∧
      (t.sync.spindlePos.toNat : Int) = ((s.cfg.bias.toNat : Int) + s.tl.delta.toInt) % 2 ^ 32 ∧
      t.sync.servoPos.toNat = s.cfg.bias.toNat * s.tl.rs.toNat / 65536 % 2 ^ 32 ∧
      (s.cfg.fixedOk = true → (t.sync.spindlePos.toNat : Int) = 2 ^ 31 + s.tl.delta.toInt)) ∧
    (¬ RebaseDemanded s s.tl.rs s.tl.rv s.sync.spindlePos.toNat → exec .synRebase s = .next s)

/-- `SYN.TARGET`: bits [47:16] of the exact product (R135, R12). -/
def Obligations.SynTargetScalesThePosition : Prop :=
  decode .tickSeq 5#24 = .ok .synTarget ∧ ∀ s : State,
    ∃ t, exec .synTarget s = .next t ∧ t = { s with tl := { s.tl with target := t.tl.target } } ∧
    t.tl.target.toNat = s.sync.spindlePos.toNat * s.tl.rs.toNat / 65536 % 2 ^ 32

/-- `SYN.STEPS`: the signed 32-bit difference and its magnitude, exact at -2^31 (R136). -/
def Obligations.SynStepsIsTheSignedDifference : Prop :=
  decode .tickSeq 6#24 = .ok .synSteps ∧ ∀ s : State, ∃ t, exec .synSteps s = .next t ∧
    t = { s with tl := { s.tl with steps := t.tl.steps, absSteps := t.tl.absSteps } } ∧
    -2 ^ 31 ≤ t.tl.steps.toInt ∧ t.tl.steps.toInt < 2 ^ 31 ∧
    (t.tl.steps.toInt - ((s.tl.target.toNat : Int) - (s.sync.servoPos.toNat : Int))) % 2 ^ 32 = 0 ∧
    t.tl.absSteps.toNat = t.tl.steps.toInt.natAbs

/-- `SYN.FCHK`: in order, later wins; nothing written when neither condition holds (R137, R259). -/
def Obligations.SynFchkLatchesTheLaterFault : Prop :=
  decode .tickSeq 7#24 = .ok .synFchk ∧ State.reset.cfg.maxSteps = 255 ∧ ∀ s : State,
    ∃ t, exec .synFchk s = .next t ∧ t = { s with shared := { s.shared with fault := t.shared.fault } } ∧
    t.shared.fault = (if s.alarm.level = true then .servoAlarm
      else if s.cfg.maxSteps < s.tl.absSteps.toNat then .tooManySteps else s.shared.fault)

/-- `SYN.ISSUE`: with no fault, steps owed and the actuator idle it emits the direction and the count and advances
`servo_pos`; else nothing changes (R138, R107). What the commands do to the actuator is `ActuatorCommands`. -/
def Obligations.SynIssueCommandsTheOwedSteps : Prop :=
  decode .tickSeq 8#24 = .ok .synIssue ∧ ∀ s : State,
    (s.shared.fault = .none → s.tl.steps ≠ 0#32 → s.levels.idle = true → ∃ t d n, exec .synIssue s = .next t ∧
      t = { s with sync := { s.sync with servoPos := t.sync.servoPos }, out := s.out ++ [.actDir d, .actStep n],
                   actuator := t.actuator, levels := { s.levels with idle := t.levels.idle } } ∧
      (d = true ↔ ¬ (s.tl.steps.toInt < 0 ↔ s.tl.rv = true)) ∧
      n.toNat = s.tl.absSteps.toNat % 256 ∧
      (t.sync.servoPos.toNat : Int) = ((s.sync.servoPos.toNat : Int) + s.tl.steps.toInt) % 2 ^ 32) ∧
    (s.shared.fault ≠ .none ∨ s.tl.steps = 0#32 ∨ s.levels.idle = false → exec .synIssue s = .next s)

/-- `SYN.HALT`: with a fault latched it emits the stop and invalidates the cache; else nothing changes (R139). What the
command does to the actuator is `ActuatorCommands`. -/
def Obligations.SynHaltStopsWhileFaulted : Prop :=
  decode .tickSeq 9#24 = .ok .synHalt ∧ ∀ s : State,
    (s.shared.fault ≠ .none → ∃ t, exec .synHalt s = .next t ∧
      t = { s with out := s.out ++ [.actStop], sync := { s.sync with cacheValid := false }, actuator := t.actuator }) ∧
    (s.shared.fault = .none → exec .synHalt s = .next s)

/-! ### The tick -/

/-- What a `TICK` leaves: the selection and the rest of the UI context, the ratio pair, the rotary register, the
display, the parameters and what the environment presents; the tick counter advances by one (R141, R68, R268). -/
def Obligations.TickLeavesTheUiContext : Prop :=
  ∀ s : State, ∃ t, exec .tick s = .next t ∧
    t = { s with sync := t.sync, shared := { s.shared with fault := t.shared.fault },
                 input := { t.input with rot := s.input.rot }, alarm := t.alarm, tickCount := t.tickCount, tl := t.tl,
                 levels := { s.levels with idle := t.levels.idle }, actuator := t.actuator, out := t.out } ∧
    t.tickCount.toNat = (s.tickCount.toNat + 1) % 2 ^ 32 ∧
    t.tl.rs = s.shared.ratio ∧ t.tl.rv = s.shared.reverse ∧
    (t.tl.filt = true → t.sync.lastRaw = s.sync.lastRaw ∧ t.sync.lastDelta = s.sync.lastDelta) ∧
    (t.tl.filt = false → t.sync.lastRaw = s.levels.raw ∧ t.sync.lastDelta = t.tl.delta)

/-- A `TICK` emits exactly one of: nothing, a stop, a direction then a step of 1 to 255; a demand above 255 stops and
does not step (R97, R149). `MAX_STEPS` is the table's, as a count above 255 has no command word. -/
def Obligations.TickEmitsOneSequence : Prop :=
  ∀ s : State, s.cfg.fixedOk = true → ∃ t, exec .tick s = .next t ∧
    ((t.shared.fault ≠ .none ∧ t.sync.cacheValid = false ∧ t.out = s.out ++ [.actStop]) ∨
     (t.shared.fault = .none ∧ (t.tl.steps = 0#32 ∨ s.levels.idle = false) ∧ t.out = s.out) ∨
     (t.shared.fault = .none ∧ t.tl.steps ≠ 0#32 ∧ s.levels.idle = true ∧
       ∃ d n, t.out = s.out ++ [.actDir d, .actStep n] ∧ 1 ≤ n.toNat ∧ n.toNat ≤ 255 ∧
         n.toNat = t.tl.steps.toInt.natAbs ∧ (d = true ↔ ¬ (t.tl.steps.toInt < 0 ↔ s.shared.reverse = true)))) ∧
    (255 < t.tl.steps.toInt.natAbs → t.shared.fault ≠ .none ∧ t.out = s.out ++ [.actStop])

/-- A latched fault stays latched, whatever lands inside the instruction, but for `RESET`, the clear itself, and a cycle
that can pick the clear: in the Fault state, with more than `QUAD` (3) clicks, those reported after its `TICK` if the
event has one (R47). -/
def Obligations.FaultIsSticky : Prop :=
  State.reset.cfg.quad = 3 ∧
  ∀ (i : Instr) (s t : State), exec i s = .next t → s.shared.fault ≠ .none →
    i ≠ .reset → i ≠ .uiFaultClear → (i = .uiTrans → s.ul.op ≠ .faultClear) →
    (i = .uicyc → ¬ (s.ui.state = .fault ∧ s.cfg.quad < s.input.clicksOut.toNat)) →
    (i = .tickUicyc → ∀ u, exec .tick s = .next u →
      ¬ (u.ui.state = .fault ∧ u.cfg.quad < u.input.clicksOut.toNat)) →
    t.shared.fault ≠ .none

/-- Whatever `TICK`s and knob movements land inside it, a UI cycle that ends with the latch cleared began in the Fault
state with four or more clicks reported (R176, R265). -/
def Obligations.OnlyAQuadClickInFaultClears : Prop :=
  State.reset.cfg.quad = 3 ∧
  ∀ s t : State, exec .uicyc s = .next t → s.shared.fault ≠ .none → t.shared.fault = .none →
    s.ui.state = .fault ∧ s.cfg.quad < s.input.clicksOut.toNat

/-- On a re-baselined tick, whichever clause of the trigger fired, the steps are exactly the floor of this tick's own
motion times the ratio: neither the old positions nor the old ratio enter. The low-water clause reads the position that
this tick's `SYN.ACCUM` leaves. An inference the spec marks as its own (R145, R147). -/
def Obligations.RebaselinedStepsAreThisTicksMotion : Prop :=
  ∀ s : State, s.cfg.fixedOk = true → ∃ t, exec .tick s = .next t ∧
    (RebaseDemanded s s.shared.ratio s.shared.reverse (positionAfterAccum s t.tl.filt t.tl.delta.toInt) →
      t.tl.steps.toInt = t.tl.delta.toInt * (s.shared.ratio.toNat : Int) / 65536 ∧
      (t.sync.spindlePos.toNat : Int) = 2 ^ 31 + t.tl.delta.toInt ∧ t.sync.cachedRatio = s.shared.ratio ∧
      t.sync.cachedReverse = s.shared.reverse)

/-- A ratio or direction change raises no fault of itself: if this tick's own motion is at most 255 steps and the
debounced alarm is clear, the tick that sees the change latches nothing. An inference the spec marks as its own (R147). -/
def Obligations.RatioChangeRaisesNoFault : Prop :=
  ∀ s : State, s.cfg.fixedOk = true → s.shared.fault = .none →
    (s.sync.cachedRatio ≠ s.shared.ratio ∨ s.sync.cachedReverse ≠ s.shared.reverse) →
    ∃ t, exec .tick s = .next t ∧
      (t.alarm.level = false → t.tl.delta.toInt.natAbs * s.shared.ratio.toNat ≤ 255 * 65536 → t.shared.fault = .none)

/-- Over any run of ticks that are neither filtered nor re-baselined the spindle position is its start plus the exact
sum of the deltas, modulo 2^32. An inference the spec marks as its own (R146). -/
def Obligations.SteadyTicksConserveMotion : Prop :=
  ∀ (xs : List Levels) (s t : State) (d : Int), SteadyTicks xs s d t →
    (t.sync.spindlePos.toNat : Int) = ((s.sync.spindlePos.toNat : Int) + d) % 2 ^ 32

/-- After a tick with the actuator idle and no fault `servo_pos` is the target: the scaled spindle position, with no
accumulated truncation. An inference the spec marks as its own (R145). -/
def Obligations.IdleTickReachesTheTarget : Prop :=
  ∀ s : State, s.levels.idle = true → ∃ t, exec .tick s = .next t ∧
    (t.shared.fault = .none →
      t.sync.servoPos.toNat = t.sync.spindlePos.toNat * s.shared.ratio.toNat / 65536 % 2 ^ 32)

/-- While a fault is latched every tick re-baselines, stops and keeps a fault latched. An inference the spec marks as
its own (R148). -/
def Obligations.LatchedTickRebaselinesAndStops : Prop :=
  ∀ s : State, s.shared.fault ≠ .none → s.sync.cacheValid = false → ∃ t, exec .tick s = .next t ∧
    t.shared.fault ≠ .none ∧ t.sync.cacheValid = false ∧ t.out = s.out ++ [.actStop] ∧
    (t.sync.spindlePos.toNat : Int) = ((s.cfg.bias.toNat : Int) + t.tl.delta.toInt) % 2 ^ 32 ∧
    t.sync.servoPos.toNat = s.cfg.bias.toNat * s.shared.ratio.toNat / 65536 % 2 ^ 32

/-- The tick-local and cycle-local values are no state: what they held before a `TICK` or a `UICYC` does not matter to
it (R20; the carriers are the model's, notes/assumptions/5.md). -/
def Obligations.LocalValuesCarryNothingOver : Prop :=
  ∀ (s : State) (x : TickLocals) (y : UiLocals),
    exec .tick { s with tl := x } = exec .tick s ∧ exec .uicyc { s with ul := y } = exec .uicyc s

/-! ### The phases of the UI controller -/

/-- `UI.SAMPLE`: the read of the clicks, of the register, of the time and of the fault, in this order, with a boundary
between any two (R61); so the clicks are those of its start and the fault that of its end. With nothing landing, four
reads, and the read of the clicks clears them (R164).
`UI.ACTIVITY`: a click or a rotary change is stamped with the sampled time, and `last_rot` follows the knob (R167). -/
def Obligations.UiSampleAndActivity : Prop :=
  decode .uiSeq 0#24 = .ok .uiSample ∧ decode .uiSeq 1#24 = .ok .uiActivity ∧ ∀ s : State,
    (∃ t, exec .uiSample s = .next t ∧ t.ul.c = s.input.clicksOut ∧ t.ui = s.ui ∧ t.ul.fs = t.shared.fault) ∧
    (∃ a b c d e, exec .caRead s = .next a ∧ Boundary a b ∧ exec .rotGet b = .next c ∧ Boundary c d ∧
      Boundary { d with ul := { d.ul with t := d.tickCount } } e ∧
      exec .uiSample s = .next { e with ul := { e.ul with fs := e.shared.fault } }) ∧
    (s.landings = [] → exec .uiSample s =
      .next { s with
        ul := { s.ul with c := s.input.clicksOut, r := s.input.rot, t := s.tickCount, fs := s.shared.fault }
        input := { s.input with clicksOut := 0#8 } }) ∧
    (s.ul.c = 0#8 ∧ s.ul.r = s.ui.lastRot → exec .uiActivity s = .next s) ∧
    (s.ul.c ≠ 0#8 ∨ s.ul.r ≠ s.ui.lastRot →
      exec .uiActivity s = .next { s with ui := { s.ui with lastActivity := s.ul.t, lastRot := s.ul.r } })

/-- `UI.DECODE` forms the word `{f, st, cc, to}` and picks the row that Table T in words gives; it writes no state
(R168, R94, R187). -/
def Obligations.UiDecodePicksTheRowOfTableT : Prop :=
  decode .uiSeq 2#24 = .ok .uiDecode ∧ State.reset.cfg.editTimeout = 5000 ∧ State.reset.cfg.quad = 3 ∧ ∀ s : State,
    ∃ t, exec .uiDecode s = .next t ∧
    t = { s with ul := { s.ul with st := s.ui.state, uit := t.ul.uit, op := t.ul.op } } ∧
    t.ul.uit.toNat =
      (if s.ul.fs = .none then 0 else 64) + 16 * (uiCode s.ui.state).toNat +
      (if s.cfg.quad < s.ul.c.toNat then 8 else 0) + (if 2 ≤ s.ul.c.toNat then 4 else 0) +
      (if 1 ≤ s.ul.c.toNat then 2 else 0) +
      (if (s.cfg.editTimeout : Int) < ((s.ul.t.toNat : Int) - (s.ui.lastActivity.toNat : Int)) % 2 ^ 32 then 1
        else 0) ∧
    t.ul.op = tableT s.cfg.quad s.ui.state (s.ul.fs != .none) s.ul.c.toNat
      (decide ((s.cfg.editTimeout : Int) < ((s.ul.t.toNat : Int) - (s.ui.lastActivity.toNat : Int)) % 2 ^ 32))

/-- `UI.PEND`: nothing outside the edit states or when the cycle enters Fault; in ChangeUnits the signed register is
clamped to 0..3, in ChangeValue the decoded magnitude to the table, the sign kept; the register is rewritten exactly
when the clamp changed it (R165). `UNITS_MIN` and `UNITS_MAX` are the table's, as a units index has two bits. -/
def Obligations.UiPendStagesTheKnob : Prop :=
  decode .uiSeq 3#24 = .ok .uiPend ∧ ∀ s : State,
    (entersFault s.ul.op = true ∨ s.ul.st = .idle ∨ s.ul.st = .fault → exec .uiPend s = .next s) ∧
    (entersFault s.ul.op = false → s.ul.st = .changeUnits → s.cfg.fixedOk = true → ∃ t, exec .uiPend s = .next t ∧
      (t.ui.pending.units.toNat : Int) = max 0 (min s.ul.r.toInt 3) ∧
      (if 0 ≤ s.ul.r.toInt ∧ s.ul.r.toInt ≤ 3 then
        t = { s with ui := { s.ui with pending := { s.ui.pending with units := t.ui.pending.units } } }
      else
        t = { s with
          ui := { s.ui with lastRot := t.input.rot, pending := { s.ui.pending with units := t.ui.pending.units } },
          input := { s.input with rot := t.input.rot }, out := s.out ++ [.rotSet t.input.rot] } ∧
        t.input.rot.toNat = t.ui.pending.units.toNat)) ∧
    (entersFault s.ul.op = false → s.ul.st = .changeValue → ∃ t, exec .uiPend s = .next t ∧
      (t.ui.pending.reverse = true ↔ s.ul.r.toInt < 0) ∧
      (t.ui.pending.value.toNat : Int) =
        min (if s.ul.r.toInt < 0 then -s.ul.r.toInt - 1 else s.ul.r.toInt) (lastRow s.cfg s.ui.active.units : Int) ∧
      (if (if s.ul.r.toInt < 0 then -s.ul.r.toInt - 1 else s.ul.r.toInt) ≤ (lastRow s.cfg s.ui.active.units : Int) then
        t = { s with ui := { s.ui with
          pending := { s.ui.pending with value := t.ui.pending.value, reverse := t.ui.pending.reverse } } }
      else
        t = { s with
          ui := { s.ui with
            lastRot := t.input.rot,
            pending := { s.ui.pending with value := t.ui.pending.value, reverse := t.ui.pending.reverse } },
          input := { s.input with rot := t.input.rot }, out := s.out ++ [.rotSet t.input.rot] } ∧
        t.input.rot.toInt = if s.ul.r.toInt < 0 then -(lastRow s.cfg s.ui.active.units : Int) - 1
          else (lastRow s.cfg s.ui.active.units : Int)))

/-- `UI.TRANS` performs the one transition operation that was picked (R166). -/
def Obligations.UiTransPerformsThePickedRow : Prop :=
  decode .uiSeq 4#24 = .ok .uiTrans ∧ ∀ s : State, ∃ t, exec .uiTrans s = .next t ∧ exec s.ul.op.instr s = .next t

/-- `UI.RENDER`: five writes in order 3, 2, 1, 0, 4, a boundary between any two (R61), with the digits and the LED of the
state and of the sampled time and fault (R180 to R185); with nothing landing, the display shows them. -/
def Obligations.UiRenderWritesTheDisplay : Prop :=
  decode .uiSeq 5#24 = .ok .uiRender ∧ State.reset.cfg.flashBit = 7 ∧
  ∀ s : State, ∃ (t : State) (d3 d2 d1 d0 led : Byte), exec .uiRender s = .next t ∧ t.ui = s.ui ∧ t.ul = s.ul ∧
    Interleaved [.dspWrite 3#3 d3, .dspWrite 2#3 d2, .dspWrite 1#3 d1, .dspWrite 0#3 d0, .dspWrite 4#3 led] s t ∧
    (s.landings = [] → t = { s with
      display := { pos0 := d0, pos1 := d1, pos2 := d2, pos3 := d3, led := led }
      out := s.out ++ [.dspWrite 3#3 d3, .dspWrite 2#3 d2, .dspWrite 1#3 d1, .dspWrite 0#3 d0, .dspWrite 4#3 led] }) ∧
    (∀ u : Units, u = (if s.ui.state = .changeUnits then s.ui.pending.units else s.ui.active.units) →
      led.toNat = (if s.ui.state = .changeUnits ∧ s.ul.t.toNat / 2 ^ s.cfg.flashBit % 2 = 1 then 0 else 2 ^ u.toNat) ∧
      (s.ui.state = .idle ∨ s.ui.state = .changeUnits →
        d3 = (if s.ui.active.reverse = true then s.cfg.glyphs.minus else s.cfg.glyphs.blank) ∧
        d2 = (feedRow s.cfg u s.ui.active.value).digit100 ∧ d1 = (feedRow s.cfg u s.ui.active.value).digit10 ∧
        d0 = (feedRow s.cfg u s.ui.active.value).digit1)) ∧
    (s.ui.state = .changeValue → s.ul.t.toNat / 2 ^ s.cfg.flashBit % 2 = 0 →
      d3 = (if s.ui.pending.reverse = true then s.cfg.glyphs.minus else s.cfg.glyphs.blank) ∧
      d2 = (feedRow s.cfg s.ui.active.units s.ui.pending.value).digit100 ∧
      d1 = (feedRow s.cfg s.ui.active.units s.ui.pending.value).digit10 ∧
      d0 = (feedRow s.cfg s.ui.active.units s.ui.pending.value).digit1) ∧
    (s.ui.state = .fault → s.ul.t.toNat / 2 ^ s.cfg.flashBit % 2 = 0 →
      d3 = s.cfg.glyphs.minus ∧ d1 = s.cfg.glyphs.err ∧ d0 = s.cfg.glyphs.minus ∧
      d2 = (match s.ul.fs with
        | .none => s.cfg.glyphs.digit0
        | .tooManySteps => s.cfg.glyphs.digit1
        | .servoAlarm => s.cfg.glyphs.digit2)) ∧
    (s.ui.state = .changeValue ∨ s.ui.state = .fault → s.ul.t.toNat / 2 ^ s.cfg.flashBit % 2 = 1 →
      d3 = s.cfg.glyphs.blank ∧ d2 = s.cfg.glyphs.blank ∧ d1 = s.cfg.glyphs.blank ∧ d0 = s.cfg.glyphs.blank)

/-- A table read takes the row of the index, or the last row when the index is past the end (R163). -/
def Obligations.TableReadClampsTheIndex : Prop :=
  ∀ (p : Params) (u : Units) (v : RowIndex),
    (v.toNat < (tableOf p u).size → some (feedRow p u v) = ((tableOf p u).first :: (tableOf p u).others)[v.toNat]?) ∧
    ((tableOf p u).size ≤ v.toNat → some (feedRow p u v) = ((tableOf p u).first :: (tableOf p u).others).getLast?)

/-- `UI.OUTPUT`: the committed row's ratio, then the committed direction, whatever lands between (R186). What lands
between is whole `TICK`s with their own levels and knob movements, at the state with the new ratio and the old direction
(R61, R71, R218), and the next state is that state with the direction written: in particular a `TICK` samples the torn
pair. -/
def Obligations.UiOutputWritesTheCommittedPair : Prop :=
  decode .uiSeq 6#24 = .ok .uiOutput ∧ ∀ (s : State) (ratio : Word32),
    ratio = (feedRow s.cfg s.ui.active.units s.ui.active.value).ratio →
    (∃ t, exec .uiOutput s = .next t ∧ t.ui = s.ui ∧ t.shared.ratio = ratio ∧
      t.shared.reverse = s.ui.active.reverse) ∧
    (s.landings = [] → exec .uiOutput s =
      .next { s with shared := { s.shared with ratio := ratio, reverse := s.ui.active.reverse } }) ∧
    (∀ (here : List Interrupt) (later : List (List Interrupt)), s.landings = here :: later →
      ∃ u, Landed here { s with shared := { s.shared with ratio := ratio }, landings := later } u ∧
        exec .uiOutput s = .next { u with shared := { u.shared with reverse := s.ui.active.reverse } }) ∧
    (∀ (x : Levels) (later : List (List Interrupt)), s.landings = [.tick x] :: later →
      ∃ u, exec .tick { s with shared := { s.shared with ratio := ratio }, landings := later, levels := x } = .next u ∧
        u.tl.rs = ratio ∧ u.tl.rv = s.shared.reverse ∧
        exec .uiOutput s = .next { u with shared := { u.shared with reverse := s.ui.active.reverse } })

/-! ### The transition operations -/

/-- Fault entry on the UI side writes only the state, from each of its rows; the clear writes None and goes to Idle; the
hold writes nothing (R169, R175, R176). -/
def Obligations.FaultTransitionsWriteTheState : Prop :=
  UitRow 0x70#7 0x40#7 .uiFaultEnterI ∧ UitRow 0x70#7 0x50#7 .uiFaultEnterU ∧ UitRow 0x70#7 0x60#7 .uiFaultEnterV ∧
  UitRow 0x38#7 0x38#7 .uiFaultClear ∧ UitRow 0x3A#7 0x32#7 .uiFaultHold ∧ ∀ s : State,
    exec .uiFaultEnterI s = .next { s with ui := { s.ui with state := .fault } } ∧
    exec .uiFaultEnterU s = .next { s with ui := { s.ui with state := .fault } } ∧
    exec .uiFaultEnterV s = .next { s with ui := { s.ui with state := .fault } } ∧
    exec .uiFaultClear s =
      .next { s with ui := { s.ui with state := .idle }, shared := { s.shared with fault := .none } } ∧
    exec .uiFaultHold s = .next s

/-- The four rows with no trigger write nothing. An inference the spec marks as its own (R177). -/
def Obligations.NopRowsWriteNothing : Prop :=
  UitRow 0x3A#7 0x30#7 .uiNopF ∧ UitRow 0x76#7 0x00#7 .uiNopI ∧ UitRow 0x73#7 0x10#7 .uiNopU ∧
  UitRow 0x73#7 0x20#7 .uiNopV ∧
  ∀ s : State, ∀ i ∈ [Instr.uiNopF, .uiNopI, .uiNopU, .uiNopV], exec i s = .next s

/-- `UI.EDIT_UNITS` seeds the register with the active units and stages them (R170). -/
def Obligations.EditUnitsSeedsTheUnits : Prop :=
  UitRow 0x74#7 0x04#7 .uiEditUnits ∧ ∀ s : State,
    ∃ t, exec .uiEditUnits s = .next t ∧ t.input.rot.toNat = s.ui.active.units.toNat ∧
    t = { s with
      ui := { s.ui with
              state := .changeUnits, lastRot := t.input.rot,
              pending := { s.ui.pending with units := s.ui.active.units } },
      input := { s.input with rot := t.input.rot }, out := s.out ++ [.rotSet t.input.rot] }

/-- `UI.EDIT_VALUE` seeds the register with the clamped, sign-encoded active value and stages it, so that the register
decodes to what is pending (R171, R178). -/
def Obligations.EditValueSeedsTheValue : Prop :=
  UitRow 0x76#7 0x02#7 .uiEditValue ∧ ∀ s : State, ∃ t, exec .uiEditValue s = .next t ∧
    t.ui.pending.value.toNat = min s.ui.active.value.toNat (lastRow s.cfg s.ui.active.units) ∧
    rotDecode t.input.rot = (t.ui.pending.value, s.ui.active.reverse) ∧
    t = { s with
      ui := { s.ui with
              state := .changeValue, lastRot := t.input.rot,
              pending := { s.ui.pending with value := t.ui.pending.value, reverse := s.ui.active.reverse } },
      input := { s.input with rot := t.input.rot }, out := s.out ++ [.rotSet t.input.rot] }

/-- `UI.COMMIT_UNITS` promotes the pending units, leaves the active value and direction, and seeds from the new table
(R172, R178). -/
def Obligations.CommitUnitsPromotesTheUnits : Prop :=
  UitRow 0x72#7 0x12#7 .uiCommitUnits ∧ ∀ s : State, ∃ t, exec .uiCommitUnits s = .next t ∧
    t.ui.pending.value.toNat = min s.ui.active.value.toNat (lastRow s.cfg s.ui.pending.units) ∧
    rotDecode t.input.rot = (t.ui.pending.value, s.ui.active.reverse) ∧
    t = { s with
      ui := { s.ui with
              state := .changeValue, lastRot := t.input.rot,
              active := { s.ui.active with units := s.ui.pending.units },
              pending := { s.ui.pending with value := t.ui.pending.value, reverse := s.ui.active.reverse } },
      input := { s.input with rot := t.input.rot }, out := s.out ++ [.rotSet t.input.rot] }

/-- `UI.COMMIT_VALUE` promotes the pending value and direction; `UI.TIMEOUT` writes only the state (R173, R174). -/
def Obligations.CommitValueAndTimeout : Prop :=
  UitRow 0x72#7 0x22#7 .uiCommitValue ∧ UitRow 0x73#7 0x11#7 .uiTimeoutU ∧ UitRow 0x73#7 0x21#7 .uiTimeoutV ∧
  ∀ s : State,
    exec .uiCommitValue s = .next { s with ui := { s.ui with
      state := .idle,
      active := { s.ui.active with value := s.ui.pending.value, reverse := s.ui.pending.reverse } } } ∧
    exec .uiTimeoutU s = .next { s with ui := { s.ui with state := .idle } } ∧
    exec .uiTimeoutV s = .next { s with ui := { s.ui with state := .idle } }

/-! ### The UI cycle -/

/-- Whatever lands inside it, a `UICYC` ends with the pair the synchronizer reads equal to the active selection's, the
clicks of its start consumed and the parameters and what the environment still presents unchanged (R45, R161). -/
def Obligations.UicycOutputsTheActiveSelection : Prop :=
  ∀ s : State, ∃ t, exec .uicyc s = .next t ∧ t.cfg = s.cfg ∧ t.slots = s.slots ∧ t.ul.c = s.input.clicksOut ∧
    t.shared.ratio = (feedRow s.cfg t.ui.active.units t.ui.active.value).ratio ∧
    t.shared.reverse = t.ui.active.reverse

/-- With nothing landing inside it, a `UICYC` leaves the synchronizer, the alarm unit, the button unit and the
actuator as they are (R68). -/
def Obligations.UicycLeavesTheTickContext : Prop :=
  ∀ s : State, s.landings = [] → ∃ t, exec .uicyc s = .next t ∧
    t = { s with shared := t.shared, ui := t.ui, ul := t.ul, display := t.display, out := t.out,
                 input := { s.input with rot := t.input.rot, clicksOut := 0#8 } }

/-- Whatever lands inside it, a `UICYC` with no click reported commits nothing: the active selection and the pair the
synchronizer reads stay those of the selection (R190). -/
def Obligations.NoCommitWithoutAClick : Prop :=
  ∀ s : State, s.input.clicksOut = 0#8 → ∃ t, exec .uicyc s = .next t ∧ t.ui.active = s.ui.active ∧
    t.shared.ratio = (selectedRow s.cfg s.ui.active).ratio ∧ t.shared.reverse = s.ui.active.reverse

/-- In an edit state with no fault, no click and no rotary change the cycle returns to Idle exactly when more than
`EDIT_TIMEOUT` (5000) ticks have passed since the last activity, and the active selection is unchanged either
way (R162, R174). -/
def Obligations.EditTimesOutAfterIdleTicks : Prop :=
  State.reset.cfg.editTimeout = 5000 ∧
  ∀ s : State, s.landings = [] → s.ui.state = .changeUnits ∨ s.ui.state = .changeValue → s.shared.fault = .none →
    s.input.clicksOut = 0#8 → s.input.rot = s.ui.lastRot → ∃ t, exec .uicyc s = .next t ∧
      t.ui.active = s.ui.active ∧ t.ui.lastActivity = s.ui.lastActivity ∧
      t.ui.state =
        (if (s.cfg.editTimeout : Int) < ((s.tickCount.toNat : Int) - (s.ui.lastActivity.toNat : Int)) % 2 ^ 32 then .idle
          else s.ui.state)

/-- In the Fault state click counts up to `QUAD` (3) leave the state and the latch; a greater one clears the latch and
goes to Idle (R175, R176, R177). -/
def Obligations.FaultClearIsGated : Prop :=
  State.reset.cfg.quad = 3 ∧ ∀ s : State,
    s.landings = [] → s.ui.state = .fault → ∃ t, exec .uicyc s = .next t ∧ t.ui.active = s.ui.active ∧
    (s.input.clicksOut.toNat ≤ s.cfg.quad → t.ui.state = .fault ∧ t.shared.fault = s.shared.fault) ∧
    (s.cfg.quad < s.input.clicksOut.toNat → t.ui.state = .idle ∧ t.shared.fault = .none)

/-- The UI round trip of the document, the knob not turned. An inference the spec marks as its own (R188). -/
def Obligations.UiRoundTrip : Prop :=
  ∀ s : State, s.cfg.fixedOk = true → s.landings = [] → s.ui.state = .idle → s.shared.fault = .none →
    6 ≤ (tableOf s.cfg 0#2).size →
    s.ui.active = { units := 0#2, value := 5#15, reverse := false } → s.input.clicksOut = 2#8 →
    ∃ a b c, exec .uicyc s = .next a ∧ a.ui.state = .changeUnits ∧ a.input.rot = 0#16 ∧
      exec .uicyc { a with input := { a.input with clicksOut := 1#8 } } = .next b ∧
      b.ui.state = .changeValue ∧ b.input.rot = 5#16 ∧
      exec .uicyc { b with input := { b.input with clicksOut := 1#8 } } = .next c ∧
      c.ui.state = .idle ∧ c.ui.active = s.ui.active

/-! ### Output commands and input units -/

/-- The actuator's words (R231 to R234): `ACT.NONE` does nothing, each command is recorded and has the effect its rule
gives it on the actuator, and a count of 0 is no command (R97). The record is the model's (notes/assumptions/6.md). -/
def Obligations.ActuatorCommands : Prop :=
  ∀ (s : State) (d : Bool) (n : Byte),
    exec .actNone s = .next s ∧
    exec .actStop s = .next { s with out := s.out ++ [.actStop], actuator := { s.actuator with pulses := 0#8 } } ∧
    exec (.actDir d) s = .next { s with out := s.out ++ [.actDir d], actuator := { s.actuator with direction := d } } ∧
    (n ≠ 0#8 → exec (.actStep n) s =
      .next { s with out := s.out ++ [.actStep n], actuator := { s.actuator with pulses := n },
                     levels := { s.levels with idle := false } }) ∧
    exec (.actStep 0#8) s = .refused .stepCountZero

/-- `DSP.WRITE` shows the value in its place and leaves every other place (R236). That it is refused for registers 5..7,
which the block never writes (R108), is the model's (notes/assumptions/10.md). -/
def Obligations.DisplayWriteShowsTheValue : Prop :=
  ∀ (s : State) (r : BitVec 3) (v : Byte),
    (r.toNat ≤ 4 → decode .dsp (BitVec.ofNat 24 (256 * r.toNat + v.toNat)) = .ok (.dspWrite r v) ∧
      ∃ t, exec (.dspWrite r v) s = .next t ∧
      t = { s with out := s.out ++ [.dspWrite r v], display := t.display } ∧
      t.display.pos0 = (if r = 0#3 then v else s.display.pos0) ∧
      t.display.pos1 = (if r = 1#3 then v else s.display.pos1) ∧
      t.display.pos2 = (if r = 2#3 then v else s.display.pos2) ∧
      t.display.pos3 = (if r = 3#3 then v else s.display.pos3) ∧
      t.display.led = (if r = 4#3 then v else s.display.led)) ∧
    (5 ≤ r.toNat → exec (.dspWrite r v) s = .refused .displayRegisterReserved)

/-- The rotary register and the click read: `ROT.GET` returns, `ROT.SET` stores, `ROT.MOVE` adds a signed count modulo
2^16, `CA.READ` returns and clears (R213, R216 to R218). That the two results go to the cycle-local `r` and `c` is the
model's (notes/assumptions/5.md). -/
def Obligations.RotaryRegisterAndClickRead : Prop :=
  (∀ w : PortWord, w.toNat < 65536 → decode .rot w = .ok .rotGet) ∧ decode .stb 1#24 = .ok .caRead ∧
  ∀ (s : State) (v d : Word16),
    decode .rot (BitVec.ofNat 24 (65536 + v.toNat)) = .ok (.rotSet v) ∧
    decode .env (BitVec.ofNat 24 d.toNat) = .ok (.rotMove d) ∧
    exec .rotGet s = .next { s with ul := { s.ul with r := s.input.rot } } ∧
    exec (.rotSet v) s = .next { s with input := { s.input with rot := v }, out := s.out ++ [.rotSet v] } ∧
    (∃ t, exec (.rotMove d) s = .next t ∧ t = { s with input := { s.input with rot := t.input.rot } } ∧
      (t.input.rot.toNat : Int) = ((s.input.rot.toNat : Int) + d.toInt) % 2 ^ 16) ∧
    exec .caRead s = .next { s with ul := { s.ul with c := s.input.clicksOut },
                                    input := { s.input with clicksOut := 0#8 } }

/-- `CA.SAMPLE`, both parts (R211, R212): the debounce of the level, and the burst that a click opens or extends and
that closes when the window has passed. -/
def Obligations.ClickSampleDebouncesAndAggregates : Prop :=
  ∀ (s : State) (b : Bool), s.cfg.windowsOk = true → ∃ t, exec (.caSample b) s = .next t ∧
    t = { s with input := { t.input with rot := s.input.rot } } ∧
    decode .in1Button (if b = true then 1#24 else 0#24) = .ok (.caSample b) ∧
    t.input.btnLevel = (if b ≠ s.input.btnLevel ∧ s.cfg.debounceTicks ≤ s.input.btnRun.toNat + 1 then b
      else s.input.btnLevel) ∧
    t.input.btnRun.toNat = (if b = s.input.btnLevel ∨ s.cfg.debounceTicks ≤ s.input.btnRun.toNat + 1 then 0
      else s.input.btnRun.toNat + 1) ∧
    (s.input.btnLevel = false → t.input.btnLevel = true →
      t.input.burstCnt.toNat = min (s.input.burstCnt.toNat + 1) 255 ∧ t.input.burstAge = 0#8 ∧
      t.input.clicksOut = s.input.clicksOut) ∧
    (s.input.btnLevel = true ∨ t.input.btnLevel = false →
      (s.input.burstCnt = 0#8 → t.input.burstCnt = 0#8 ∧ t.input.burstAge = s.input.burstAge ∧
        t.input.clicksOut = s.input.clicksOut) ∧
      (s.input.burstCnt ≠ 0#8 → s.input.burstAge.toNat + 1 < s.cfg.aggTicks →
        t.input.burstCnt = s.input.burstCnt ∧ t.input.burstAge.toNat = s.input.burstAge.toNat + 1 ∧
        t.input.clicksOut = s.input.clicksOut) ∧
      (s.input.burstCnt ≠ 0#8 → s.cfg.aggTicks ≤ s.input.burstAge.toNat + 1 →
        t.input.burstCnt = 0#8 ∧ t.input.burstAge = 0#8 ∧ t.input.clicksOut = s.input.burstCnt))

/-- Samples that differ from the debounced level change it on the last of a whole window of them and not before
(R211, R214's ground). -/
def Obligations.ButtonLevelChangesAfterAWindow : Prop :=
  ∀ (s : State) (b : Bool) (n : Nat), s.cfg.windowsOk = true → s.input.btnLevel ≠ b → s.input.btnRun = 0#6 →
    n ≤ s.cfg.debounceTicks → ∃ t, execAll (List.replicate n (.caSample b)) s = .next t ∧
      (n < s.cfg.debounceTicks → t.input.btnLevel = s.input.btnLevel ∧ t.input.btnRun.toNat = n) ∧
      (n = s.cfg.debounceTicks → t.input.btnLevel = b ∧ t.input.btnRun = 0#6)

/-- A burst with no further click, whatever the samples that make none (a hold, a release, a bounce), closes on the last
sample of the follow-on window and not before, and its count is then waiting to be read (R212). -/
def Obligations.BurstClosesAfterTheWindow : Prop :=
  ∀ (s : State) (bs : List Bool), s.cfg.windowsOk = true → s.input.burstCnt ≠ 0#8 → s.input.burstAge = 0#8 →
    bs.length ≤ s.cfg.aggTicks → NoClick bs s →
    ∃ t, execAll (bs.map .caSample) s = .next t ∧
      (bs.length < s.cfg.aggTicks → t.input.burstCnt = s.input.burstCnt ∧ t.input.clicksOut = s.input.clicksOut ∧
        t.input.burstAge.toNat = bs.length) ∧
      (bs.length = s.cfg.aggTicks →
        t.input.burstCnt = 0#8 ∧ t.input.clicksOut = s.input.burstCnt ∧ t.input.burstAge = 0#8)

/-- `AL.SAMPLE` (R221): a sample equal to the level restarts the run, and the level changes on the sample that completes
it. -/
def Obligations.AlarmSampleDebounces : Prop :=
  ∀ (s : State) (a : Bool), s.cfg.windowsOk = true → ∃ t, exec (.alSample a) s = .next t ∧
    t = { s with alarm := t.alarm } ∧
    decode .in1Alarm (if a = true then 1#24 else 0#24) = .ok (.alSample a) ∧
    t.alarm.level = (if a ≠ s.alarm.level ∧ s.cfg.alarmStable ≤ s.alarm.run.toNat + 1 then a else s.alarm.level) ∧
    t.alarm.run.toNat = (if a = s.alarm.level ∨ s.cfg.alarmStable ≤ s.alarm.run.toNat + 1 then 0
      else s.alarm.run.toNat + 1)

/-- With the raw alarm asserted, ticks leave the debounced alarm clear until the window completes, and the tick that
completes it latches ServoAlarm (R221, R254). -/
def Obligations.AlarmLatchesOnTheTickThatSettles : Prop :=
  ∀ (s : State) (n : Nat), s.cfg.windowsOk = true → s.alarm.level = false → s.alarm.run = 0#4 →
    s.levels.alarmRaw = true → n ≤ s.cfg.alarmStable → ∃ t, execAll (List.replicate n .tick) s = .next t ∧
      (n < s.cfg.alarmStable → t.alarm.level = false ∧ t.alarm.run.toNat = n) ∧
      (n = s.cfg.alarmStable → t.alarm.level = true ∧ t.shared.fault = .servoAlarm ∧ t.sync.cacheValid = false)

/-! ### Encodings of values -/

/-- Rotary decode and encode are inverse, and a negative register is a reversed magnitude `-raw - 1` (R101, R102). -/
def Obligations.RotaryCodesAreInverse : Prop :=
  (∀ raw : Word16, rotEncode (rotDecode raw).1 (rotDecode raw).2 = raw ∧
    ((rotDecode raw).2 = true ↔ raw.toInt < 0) ∧
    ((rotDecode raw).1.toNat : Int) = (if raw.toInt < 0 then -raw.toInt - 1 else raw.toInt)) ∧
  (∀ (m : RowIndex) (r : Bool), rotDecode (rotEncode m r) = (m, r))

/-- The laws of the fixed-point multiply (R144). -/
def Obligations.FixedPointMultiplyLaws : Prop :=
  ∀ a r : Word32, fxmul a 0#32 = 0#32 ∧ fxmul 0#32 r = 0#32 ∧ fxmul a 0x00010000#32 = a ∧
    fxmul State.reset.cfg.bias r = r <<< 15 ∧ (fxmul a r).toNat = a.toNat * r.toNat / 65536 % 2 ^ 32

/-! ### The invariant -/

/-- Every step keeps the invariant of the block: a shown fault is latched, a latched fault leaves the cache invalid, the
synchronizer's pair is the active selection's, the pending value is in its table, the accumulator is at or above the
low-water mark, and the run counters are in range (R45, R49, R32, R305, R36, R37). -/
def Obligations.EveryStepKeepsTheBlockInvariant : Prop :=
  ∀ s t : State, BlockInv s → step s = .next t → BlockInv t

/-- The reset state has the invariant (the parameters' values are Table P's references). -/
def Obligations.ResetHasTheBlockInvariant : Prop := BlockInv State.reset
end

