-- ==== Sys2Proof/Laws/State.lean ====
section
/-! SUPPORT. One lemma per field per setter of State, all true by computation, so that no proof unfolds a record
update; and that of two updates of one group the second stands. -/

namespace Sys2Proof.Machine

/-! ### setSync -/

@[simp] theorem State.setSync_cfg (s : State) (x : Sync) : (s.setSync x).cfg = s.cfg := rfl
@[simp] theorem State.setSync_sync (s : State) (x : Sync) : (s.setSync x).sync = x := rfl
@[simp] theorem State.setSync_shared (s : State) (x : Sync) : (s.setSync x).shared = s.shared := rfl
@[simp] theorem State.setSync_ui (s : State) (x : Sync) : (s.setSync x).ui = s.ui := rfl
@[simp] theorem State.setSync_input (s : State) (x : Sync) : (s.setSync x).input = s.input := rfl
@[simp] theorem State.setSync_alarm (s : State) (x : Sync) : (s.setSync x).alarm = s.alarm := rfl
@[simp] theorem State.setSync_tickCount (s : State) (x : Sync) : (s.setSync x).tickCount = s.tickCount := rfl
@[simp] theorem State.setSync_tl (s : State) (x : Sync) : (s.setSync x).tl = s.tl := rfl
@[simp] theorem State.setSync_ul (s : State) (x : Sync) : (s.setSync x).ul = s.ul := rfl
@[simp] theorem State.setSync_levels (s : State) (x : Sync) : (s.setSync x).levels = s.levels := rfl
@[simp] theorem State.setSync_actuator (s : State) (x : Sync) : (s.setSync x).actuator = s.actuator := rfl
@[simp] theorem State.setSync_display (s : State) (x : Sync) : (s.setSync x).display = s.display := rfl
@[simp] theorem State.setSync_out (s : State) (x : Sync) : (s.setSync x).out = s.out := rfl
@[simp] theorem State.setSync_slots (s : State) (x : Sync) : (s.setSync x).slots = s.slots := rfl
@[simp] theorem State.setSync_landings (s : State) (x : Sync) : (s.setSync x).landings = s.landings := rfl
@[simp] theorem State.setSync_setSync (s : State) (x y : Sync) : (s.setSync x).setSync y = s.setSync y := rfl
@[simp] theorem State.setSync_self (s : State) : s.setSync s.sync = s := rfl

/-! ### setShared -/

@[simp] theorem State.setShared_cfg (s : State) (x : Shared) : (s.setShared x).cfg = s.cfg := rfl
@[simp] theorem State.setShared_sync (s : State) (x : Shared) : (s.setShared x).sync = s.sync := rfl
@[simp] theorem State.setShared_shared (s : State) (x : Shared) : (s.setShared x).shared = x := rfl
@[simp] theorem State.setShared_ui (s : State) (x : Shared) : (s.setShared x).ui = s.ui := rfl
@[simp] theorem State.setShared_input (s : State) (x : Shared) : (s.setShared x).input = s.input := rfl
@[simp] theorem State.setShared_alarm (s : State) (x : Shared) : (s.setShared x).alarm = s.alarm := rfl
@[simp] theorem State.setShared_tickCount (s : State) (x : Shared) : (s.setShared x).tickCount = s.tickCount := rfl
@[simp] theorem State.setShared_tl (s : State) (x : Shared) : (s.setShared x).tl = s.tl := rfl
@[simp] theorem State.setShared_ul (s : State) (x : Shared) : (s.setShared x).ul = s.ul := rfl
@[simp] theorem State.setShared_levels (s : State) (x : Shared) : (s.setShared x).levels = s.levels := rfl
@[simp] theorem State.setShared_actuator (s : State) (x : Shared) : (s.setShared x).actuator = s.actuator := rfl
@[simp] theorem State.setShared_display (s : State) (x : Shared) : (s.setShared x).display = s.display := rfl
@[simp] theorem State.setShared_out (s : State) (x : Shared) : (s.setShared x).out = s.out := rfl
@[simp] theorem State.setShared_slots (s : State) (x : Shared) : (s.setShared x).slots = s.slots := rfl
@[simp] theorem State.setShared_landings (s : State) (x : Shared) : (s.setShared x).landings = s.landings := rfl
@[simp] theorem State.setShared_setShared (s : State) (x y : Shared) : (s.setShared x).setShared y = s.setShared y := rfl
@[simp] theorem State.setShared_self (s : State) : s.setShared s.shared = s := rfl

/-! ### setUi -/

@[simp] theorem State.setUi_cfg (s : State) (x : Ui) : (s.setUi x).cfg = s.cfg := rfl
@[simp] theorem State.setUi_sync (s : State) (x : Ui) : (s.setUi x).sync = s.sync := rfl
@[simp] theorem State.setUi_shared (s : State) (x : Ui) : (s.setUi x).shared = s.shared := rfl
@[simp] theorem State.setUi_ui (s : State) (x : Ui) : (s.setUi x).ui = x := rfl
@[simp] theorem State.setUi_input (s : State) (x : Ui) : (s.setUi x).input = s.input := rfl
@[simp] theorem State.setUi_alarm (s : State) (x : Ui) : (s.setUi x).alarm = s.alarm := rfl
@[simp] theorem State.setUi_tickCount (s : State) (x : Ui) : (s.setUi x).tickCount = s.tickCount := rfl
@[simp] theorem State.setUi_tl (s : State) (x : Ui) : (s.setUi x).tl = s.tl := rfl
@[simp] theorem State.setUi_ul (s : State) (x : Ui) : (s.setUi x).ul = s.ul := rfl
@[simp] theorem State.setUi_levels (s : State) (x : Ui) : (s.setUi x).levels = s.levels := rfl
@[simp] theorem State.setUi_actuator (s : State) (x : Ui) : (s.setUi x).actuator = s.actuator := rfl
@[simp] theorem State.setUi_display (s : State) (x : Ui) : (s.setUi x).display = s.display := rfl
@[simp] theorem State.setUi_out (s : State) (x : Ui) : (s.setUi x).out = s.out := rfl
@[simp] theorem State.setUi_slots (s : State) (x : Ui) : (s.setUi x).slots = s.slots := rfl
@[simp] theorem State.setUi_landings (s : State) (x : Ui) : (s.setUi x).landings = s.landings := rfl
@[simp] theorem State.setUi_setUi (s : State) (x y : Ui) : (s.setUi x).setUi y = s.setUi y := rfl
@[simp] theorem State.setUi_self (s : State) : s.setUi s.ui = s := rfl

/-! ### setInput -/

@[simp] theorem State.setInput_cfg (s : State) (x : InputUnit) : (s.setInput x).cfg = s.cfg := rfl
@[simp] theorem State.setInput_sync (s : State) (x : InputUnit) : (s.setInput x).sync = s.sync := rfl
@[simp] theorem State.setInput_shared (s : State) (x : InputUnit) : (s.setInput x).shared = s.shared := rfl
@[simp] theorem State.setInput_ui (s : State) (x : InputUnit) : (s.setInput x).ui = s.ui := rfl
@[simp] theorem State.setInput_input (s : State) (x : InputUnit) : (s.setInput x).input = x := rfl
@[simp] theorem State.setInput_alarm (s : State) (x : InputUnit) : (s.setInput x).alarm = s.alarm := rfl
@[simp] theorem State.setInput_tickCount (s : State) (x : InputUnit) : (s.setInput x).tickCount = s.tickCount := rfl
@[simp] theorem State.setInput_tl (s : State) (x : InputUnit) : (s.setInput x).tl = s.tl := rfl
@[simp] theorem State.setInput_ul (s : State) (x : InputUnit) : (s.setInput x).ul = s.ul := rfl
@[simp] theorem State.setInput_levels (s : State) (x : InputUnit) : (s.setInput x).levels = s.levels := rfl
@[simp] theorem State.setInput_actuator (s : State) (x : InputUnit) : (s.setInput x).actuator = s.actuator := rfl
@[simp] theorem State.setInput_display (s : State) (x : InputUnit) : (s.setInput x).display = s.display := rfl
@[simp] theorem State.setInput_out (s : State) (x : InputUnit) : (s.setInput x).out = s.out := rfl
@[simp] theorem State.setInput_slots (s : State) (x : InputUnit) : (s.setInput x).slots = s.slots := rfl
@[simp] theorem State.setInput_landings (s : State) (x : InputUnit) : (s.setInput x).landings = s.landings := rfl
@[simp] theorem State.setInput_setInput (s : State) (x y : InputUnit) : (s.setInput x).setInput y = s.setInput y := rfl
@[simp] theorem State.setInput_self (s : State) : s.setInput s.input = s := rfl

/-! ### setAlarm -/

@[simp] theorem State.setAlarm_cfg (s : State) (x : AlarmUnit) : (s.setAlarm x).cfg = s.cfg := rfl
@[simp] theorem State.setAlarm_sync (s : State) (x : AlarmUnit) : (s.setAlarm x).sync = s.sync := rfl
@[simp] theorem State.setAlarm_shared (s : State) (x : AlarmUnit) : (s.setAlarm x).shared = s.shared := rfl
@[simp] theorem State.setAlarm_ui (s : State) (x : AlarmUnit) : (s.setAlarm x).ui = s.ui := rfl
@[simp] theorem State.setAlarm_input (s : State) (x : AlarmUnit) : (s.setAlarm x).input = s.input := rfl
@[simp] theorem State.setAlarm_alarm (s : State) (x : AlarmUnit) : (s.setAlarm x).alarm = x := rfl
@[simp] theorem State.setAlarm_tickCount (s : State) (x : AlarmUnit) : (s.setAlarm x).tickCount = s.tickCount := rfl
@[simp] theorem State.setAlarm_tl (s : State) (x : AlarmUnit) : (s.setAlarm x).tl = s.tl := rfl
@[simp] theorem State.setAlarm_ul (s : State) (x : AlarmUnit) : (s.setAlarm x).ul = s.ul := rfl
@[simp] theorem State.setAlarm_levels (s : State) (x : AlarmUnit) : (s.setAlarm x).levels = s.levels := rfl
@[simp] theorem State.setAlarm_actuator (s : State) (x : AlarmUnit) : (s.setAlarm x).actuator = s.actuator := rfl
@[simp] theorem State.setAlarm_display (s : State) (x : AlarmUnit) : (s.setAlarm x).display = s.display := rfl
@[simp] theorem State.setAlarm_out (s : State) (x : AlarmUnit) : (s.setAlarm x).out = s.out := rfl
@[simp] theorem State.setAlarm_slots (s : State) (x : AlarmUnit) : (s.setAlarm x).slots = s.slots := rfl
@[simp] theorem State.setAlarm_landings (s : State) (x : AlarmUnit) : (s.setAlarm x).landings = s.landings := rfl
@[simp] theorem State.setAlarm_setAlarm (s : State) (x y : AlarmUnit) : (s.setAlarm x).setAlarm y = s.setAlarm y := rfl
@[simp] theorem State.setAlarm_self (s : State) : s.setAlarm s.alarm = s := rfl

/-! ### setTickCount -/

@[simp] theorem State.setTickCount_cfg (s : State) (x : Word32) : (s.setTickCount x).cfg = s.cfg := rfl
@[simp] theorem State.setTickCount_sync (s : State) (x : Word32) : (s.setTickCount x).sync = s.sync := rfl
@[simp] theorem State.setTickCount_shared (s : State) (x : Word32) : (s.setTickCount x).shared = s.shared := rfl
@[simp] theorem State.setTickCount_ui (s : State) (x : Word32) : (s.setTickCount x).ui = s.ui := rfl
@[simp] theorem State.setTickCount_input (s : State) (x : Word32) : (s.setTickCount x).input = s.input := rfl
@[simp] theorem State.setTickCount_alarm (s : State) (x : Word32) : (s.setTickCount x).alarm = s.alarm := rfl
@[simp] theorem State.setTickCount_tickCount (s : State) (x : Word32) : (s.setTickCount x).tickCount = x := rfl
@[simp] theorem State.setTickCount_tl (s : State) (x : Word32) : (s.setTickCount x).tl = s.tl := rfl
@[simp] theorem State.setTickCount_ul (s : State) (x : Word32) : (s.setTickCount x).ul = s.ul := rfl
@[simp] theorem State.setTickCount_levels (s : State) (x : Word32) : (s.setTickCount x).levels = s.levels := rfl
@[simp] theorem State.setTickCount_actuator (s : State) (x : Word32) : (s.setTickCount x).actuator = s.actuator := rfl
@[simp] theorem State.setTickCount_display (s : State) (x : Word32) : (s.setTickCount x).display = s.display := rfl
@[simp] theorem State.setTickCount_out (s : State) (x : Word32) : (s.setTickCount x).out = s.out := rfl
@[simp] theorem State.setTickCount_slots (s : State) (x : Word32) : (s.setTickCount x).slots = s.slots := rfl
@[simp] theorem State.setTickCount_landings (s : State) (x : Word32) : (s.setTickCount x).landings = s.landings := rfl
@[simp] theorem State.setTickCount_setTickCount (s : State) (x y : Word32) : (s.setTickCount x).setTickCount y = s.setTickCount y := rfl
@[simp] theorem State.setTickCount_self (s : State) : s.setTickCount s.tickCount = s := rfl

/-! ### setTl -/

@[simp] theorem State.setTl_cfg (s : State) (x : TickLocals) : (s.setTl x).cfg = s.cfg := rfl
@[simp] theorem State.setTl_sync (s : State) (x : TickLocals) : (s.setTl x).sync = s.sync := rfl
@[simp] theorem State.setTl_shared (s : State) (x : TickLocals) : (s.setTl x).shared = s.shared := rfl
@[simp] theorem State.setTl_ui (s : State) (x : TickLocals) : (s.setTl x).ui = s.ui := rfl
@[simp] theorem State.setTl_input (s : State) (x : TickLocals) : (s.setTl x).input = s.input := rfl
@[simp] theorem State.setTl_alarm (s : State) (x : TickLocals) : (s.setTl x).alarm = s.alarm := rfl
@[simp] theorem State.setTl_tickCount (s : State) (x : TickLocals) : (s.setTl x).tickCount = s.tickCount := rfl
@[simp] theorem State.setTl_tl (s : State) (x : TickLocals) : (s.setTl x).tl = x := rfl
@[simp] theorem State.setTl_ul (s : State) (x : TickLocals) : (s.setTl x).ul = s.ul := rfl
@[simp] theorem State.setTl_levels (s : State) (x : TickLocals) : (s.setTl x).levels = s.levels := rfl
@[simp] theorem State.setTl_actuator (s : State) (x : TickLocals) : (s.setTl x).actuator = s.actuator := rfl
@[simp] theorem State.setTl_display (s : State) (x : TickLocals) : (s.setTl x).display = s.display := rfl
@[simp] theorem State.setTl_out (s : State) (x : TickLocals) : (s.setTl x).out = s.out := rfl
@[simp] theorem State.setTl_slots (s : State) (x : TickLocals) : (s.setTl x).slots = s.slots := rfl
@[simp] theorem State.setTl_landings (s : State) (x : TickLocals) : (s.setTl x).landings = s.landings := rfl
@[simp] theorem State.setTl_setTl (s : State) (x y : TickLocals) : (s.setTl x).setTl y = s.setTl y := rfl
@[simp] theorem State.setTl_self (s : State) : s.setTl s.tl = s := rfl

/-! ### setUl -/

@[simp] theorem State.setUl_cfg (s : State) (x : UiLocals) : (s.setUl x).cfg = s.cfg := rfl
@[simp] theorem State.setUl_sync (s : State) (x : UiLocals) : (s.setUl x).sync = s.sync := rfl
@[simp] theorem State.setUl_shared (s : State) (x : UiLocals) : (s.setUl x).shared = s.shared := rfl
@[simp] theorem State.setUl_ui (s : State) (x : UiLocals) : (s.setUl x).ui = s.ui := rfl
@[simp] theorem State.setUl_input (s : State) (x : UiLocals) : (s.setUl x).input = s.input := rfl
@[simp] theorem State.setUl_alarm (s : State) (x : UiLocals) : (s.setUl x).alarm = s.alarm := rfl
@[simp] theorem State.setUl_tickCount (s : State) (x : UiLocals) : (s.setUl x).tickCount = s.tickCount := rfl
@[simp] theorem State.setUl_tl (s : State) (x : UiLocals) : (s.setUl x).tl = s.tl := rfl
@[simp] theorem State.setUl_ul (s : State) (x : UiLocals) : (s.setUl x).ul = x := rfl
@[simp] theorem State.setUl_levels (s : State) (x : UiLocals) : (s.setUl x).levels = s.levels := rfl
@[simp] theorem State.setUl_actuator (s : State) (x : UiLocals) : (s.setUl x).actuator = s.actuator := rfl
@[simp] theorem State.setUl_display (s : State) (x : UiLocals) : (s.setUl x).display = s.display := rfl
@[simp] theorem State.setUl_out (s : State) (x : UiLocals) : (s.setUl x).out = s.out := rfl
@[simp] theorem State.setUl_slots (s : State) (x : UiLocals) : (s.setUl x).slots = s.slots := rfl
@[simp] theorem State.setUl_landings (s : State) (x : UiLocals) : (s.setUl x).landings = s.landings := rfl
@[simp] theorem State.setUl_setUl (s : State) (x y : UiLocals) : (s.setUl x).setUl y = s.setUl y := rfl
@[simp] theorem State.setUl_self (s : State) : s.setUl s.ul = s := rfl

/-! ### setLevels -/

@[simp] theorem State.setLevels_cfg (s : State) (x : Levels) : (s.setLevels x).cfg = s.cfg := rfl
@[simp] theorem State.setLevels_sync (s : State) (x : Levels) : (s.setLevels x).sync = s.sync := rfl
@[simp] theorem State.setLevels_shared (s : State) (x : Levels) : (s.setLevels x).shared = s.shared := rfl
@[simp] theorem State.setLevels_ui (s : State) (x : Levels) : (s.setLevels x).ui = s.ui := rfl
@[simp] theorem State.setLevels_input (s : State) (x : Levels) : (s.setLevels x).input = s.input := rfl
@[simp] theorem State.setLevels_alarm (s : State) (x : Levels) : (s.setLevels x).alarm = s.alarm := rfl
@[simp] theorem State.setLevels_tickCount (s : State) (x : Levels) : (s.setLevels x).tickCount = s.tickCount := rfl
@[simp] theorem State.setLevels_tl (s : State) (x : Levels) : (s.setLevels x).tl = s.tl := rfl
@[simp] theorem State.setLevels_ul (s : State) (x : Levels) : (s.setLevels x).ul = s.ul := rfl
@[simp] theorem State.setLevels_levels (s : State) (x : Levels) : (s.setLevels x).levels = x := rfl
@[simp] theorem State.setLevels_actuator (s : State) (x : Levels) : (s.setLevels x).actuator = s.actuator := rfl
@[simp] theorem State.setLevels_display (s : State) (x : Levels) : (s.setLevels x).display = s.display := rfl
@[simp] theorem State.setLevels_out (s : State) (x : Levels) : (s.setLevels x).out = s.out := rfl
@[simp] theorem State.setLevels_slots (s : State) (x : Levels) : (s.setLevels x).slots = s.slots := rfl
@[simp] theorem State.setLevels_landings (s : State) (x : Levels) : (s.setLevels x).landings = s.landings := rfl
@[simp] theorem State.setLevels_setLevels (s : State) (x y : Levels) : (s.setLevels x).setLevels y = s.setLevels y := rfl
@[simp] theorem State.setLevels_self (s : State) : s.setLevels s.levels = s := rfl

/-! ### setActuator -/

@[simp] theorem State.setActuator_cfg (s : State) (x : Actuator) : (s.setActuator x).cfg = s.cfg := rfl
@[simp] theorem State.setActuator_sync (s : State) (x : Actuator) : (s.setActuator x).sync = s.sync := rfl
@[simp] theorem State.setActuator_shared (s : State) (x : Actuator) : (s.setActuator x).shared = s.shared := rfl
@[simp] theorem State.setActuator_ui (s : State) (x : Actuator) : (s.setActuator x).ui = s.ui := rfl
@[simp] theorem State.setActuator_input (s : State) (x : Actuator) : (s.setActuator x).input = s.input := rfl
@[simp] theorem State.setActuator_alarm (s : State) (x : Actuator) : (s.setActuator x).alarm = s.alarm := rfl
@[simp] theorem State.setActuator_tickCount (s : State) (x : Actuator) : (s.setActuator x).tickCount = s.tickCount := rfl
@[simp] theorem State.setActuator_tl (s : State) (x : Actuator) : (s.setActuator x).tl = s.tl := rfl
@[simp] theorem State.setActuator_ul (s : State) (x : Actuator) : (s.setActuator x).ul = s.ul := rfl
@[simp] theorem State.setActuator_levels (s : State) (x : Actuator) : (s.setActuator x).levels = s.levels := rfl
@[simp] theorem State.setActuator_actuator (s : State) (x : Actuator) : (s.setActuator x).actuator = x := rfl
@[simp] theorem State.setActuator_display (s : State) (x : Actuator) : (s.setActuator x).display = s.display := rfl
@[simp] theorem State.setActuator_out (s : State) (x : Actuator) : (s.setActuator x).out = s.out := rfl
@[simp] theorem State.setActuator_slots (s : State) (x : Actuator) : (s.setActuator x).slots = s.slots := rfl
@[simp] theorem State.setActuator_landings (s : State) (x : Actuator) : (s.setActuator x).landings = s.landings := rfl
@[simp] theorem State.setActuator_setActuator (s : State) (x y : Actuator) : (s.setActuator x).setActuator y = s.setActuator y := rfl
@[simp] theorem State.setActuator_self (s : State) : s.setActuator s.actuator = s := rfl

/-! ### setDisplay -/

@[simp] theorem State.setDisplay_cfg (s : State) (x : Display) : (s.setDisplay x).cfg = s.cfg := rfl
@[simp] theorem State.setDisplay_sync (s : State) (x : Display) : (s.setDisplay x).sync = s.sync := rfl
@[simp] theorem State.setDisplay_shared (s : State) (x : Display) : (s.setDisplay x).shared = s.shared := rfl
@[simp] theorem State.setDisplay_ui (s : State) (x : Display) : (s.setDisplay x).ui = s.ui := rfl
@[simp] theorem State.setDisplay_input (s : State) (x : Display) : (s.setDisplay x).input = s.input := rfl
@[simp] theorem State.setDisplay_alarm (s : State) (x : Display) : (s.setDisplay x).alarm = s.alarm := rfl
@[simp] theorem State.setDisplay_tickCount (s : State) (x : Display) : (s.setDisplay x).tickCount = s.tickCount := rfl
@[simp] theorem State.setDisplay_tl (s : State) (x : Display) : (s.setDisplay x).tl = s.tl := rfl
@[simp] theorem State.setDisplay_ul (s : State) (x : Display) : (s.setDisplay x).ul = s.ul := rfl
@[simp] theorem State.setDisplay_levels (s : State) (x : Display) : (s.setDisplay x).levels = s.levels := rfl
@[simp] theorem State.setDisplay_actuator (s : State) (x : Display) : (s.setDisplay x).actuator = s.actuator := rfl
@[simp] theorem State.setDisplay_display (s : State) (x : Display) : (s.setDisplay x).display = x := rfl
@[simp] theorem State.setDisplay_out (s : State) (x : Display) : (s.setDisplay x).out = s.out := rfl
@[simp] theorem State.setDisplay_slots (s : State) (x : Display) : (s.setDisplay x).slots = s.slots := rfl
@[simp] theorem State.setDisplay_landings (s : State) (x : Display) : (s.setDisplay x).landings = s.landings := rfl
@[simp] theorem State.setDisplay_setDisplay (s : State) (x y : Display) : (s.setDisplay x).setDisplay y = s.setDisplay y := rfl
@[simp] theorem State.setDisplay_self (s : State) : s.setDisplay s.display = s := rfl

/-! ### setOut -/

@[simp] theorem State.setOut_cfg (s : State) (x : List Command) : (s.setOut x).cfg = s.cfg := rfl
@[simp] theorem State.setOut_sync (s : State) (x : List Command) : (s.setOut x).sync = s.sync := rfl
@[simp] theorem State.setOut_shared (s : State) (x : List Command) : (s.setOut x).shared = s.shared := rfl
@[simp] theorem State.setOut_ui (s : State) (x : List Command) : (s.setOut x).ui = s.ui := rfl
@[simp] theorem State.setOut_input (s : State) (x : List Command) : (s.setOut x).input = s.input := rfl
@[simp] theorem State.setOut_alarm (s : State) (x : List Command) : (s.setOut x).alarm = s.alarm := rfl
@[simp] theorem State.setOut_tickCount (s : State) (x : List Command) : (s.setOut x).tickCount = s.tickCount := rfl
@[simp] theorem State.setOut_tl (s : State) (x : List Command) : (s.setOut x).tl = s.tl := rfl
@[simp] theorem State.setOut_ul (s : State) (x : List Command) : (s.setOut x).ul = s.ul := rfl
@[simp] theorem State.setOut_levels (s : State) (x : List Command) : (s.setOut x).levels = s.levels := rfl
@[simp] theorem State.setOut_actuator (s : State) (x : List Command) : (s.setOut x).actuator = s.actuator := rfl
@[simp] theorem State.setOut_display (s : State) (x : List Command) : (s.setOut x).display = s.display := rfl
@[simp] theorem State.setOut_out (s : State) (x : List Command) : (s.setOut x).out = x := rfl
@[simp] theorem State.setOut_slots (s : State) (x : List Command) : (s.setOut x).slots = s.slots := rfl
@[simp] theorem State.setOut_landings (s : State) (x : List Command) : (s.setOut x).landings = s.landings := rfl
@[simp] theorem State.setOut_setOut (s : State) (x y : List Command) : (s.setOut x).setOut y = s.setOut y := rfl
@[simp] theorem State.setOut_self (s : State) : s.setOut s.out = s := rfl

/-! ### setLandings -/

@[simp] theorem State.setLandings_cfg (s : State) (x : List (List Interrupt)) : (s.setLandings x).cfg = s.cfg := rfl
@[simp] theorem State.setLandings_sync (s : State) (x : List (List Interrupt)) : (s.setLandings x).sync = s.sync := rfl
@[simp] theorem State.setLandings_shared (s : State) (x : List (List Interrupt)) : (s.setLandings x).shared = s.shared := rfl
@[simp] theorem State.setLandings_ui (s : State) (x : List (List Interrupt)) : (s.setLandings x).ui = s.ui := rfl
@[simp] theorem State.setLandings_input (s : State) (x : List (List Interrupt)) : (s.setLandings x).input = s.input := rfl
@[simp] theorem State.setLandings_alarm (s : State) (x : List (List Interrupt)) : (s.setLandings x).alarm = s.alarm := rfl
@[simp] theorem State.setLandings_tickCount (s : State) (x : List (List Interrupt)) : (s.setLandings x).tickCount = s.tickCount := rfl
@[simp] theorem State.setLandings_tl (s : State) (x : List (List Interrupt)) : (s.setLandings x).tl = s.tl := rfl
@[simp] theorem State.setLandings_ul (s : State) (x : List (List Interrupt)) : (s.setLandings x).ul = s.ul := rfl
@[simp] theorem State.setLandings_levels (s : State) (x : List (List Interrupt)) : (s.setLandings x).levels = s.levels := rfl
@[simp] theorem State.setLandings_actuator (s : State) (x : List (List Interrupt)) : (s.setLandings x).actuator = s.actuator := rfl
@[simp] theorem State.setLandings_display (s : State) (x : List (List Interrupt)) : (s.setLandings x).display = s.display := rfl
@[simp] theorem State.setLandings_out (s : State) (x : List (List Interrupt)) : (s.setLandings x).out = s.out := rfl
@[simp] theorem State.setLandings_slots (s : State) (x : List (List Interrupt)) : (s.setLandings x).slots = s.slots := rfl
@[simp] theorem State.setLandings_landings (s : State) (x : List (List Interrupt)) : (s.setLandings x).landings = x := rfl
@[simp] theorem State.setLandings_setLandings (s : State) (x y : List (List Interrupt)) : (s.setLandings x).setLandings y = s.setLandings y := rfl
@[simp] theorem State.setLandings_self (s : State) : s.setLandings s.landings = s := rfl

end Sys2Proof.Machine
end

