-- ==== Sys2Proof/Laws/Ops.lean ====
section
/-! SUPPORT. One lemma per shared operation that says everything it can do: the named operations of Machine/Ops.lean,
the input units, the phases of a `TICK`, what lands at a boundary, and the display. All operations are total, so each
lemma is the state after it, in the cases the rule has. -/

namespace Sys2Proof.Machine

/-! ### Output ports -/

theorem emit_eq (c : Command) (s : State) : emit c s = { s with out := s.out ++ [c] } := rfl

theorem sendStop_eq (s : State) :
    sendStop s = { s with out := s.out ++ [.actStop], actuator := { s.actuator with pulses := 0#8 } } := rfl

theorem sendDir_eq (d : Bool) (s : State) :
    sendDir d s = { s with out := s.out ++ [.actDir d], actuator := { s.actuator with direction := d } } := rfl

theorem sendStep_eq (n : Byte) (s : State) :
    sendStep n s = { s with
      out := s.out ++ [.actStep n], actuator := { s.actuator with pulses := n }
      levels := { s.levels with idle := false } } := rfl

theorem sendDisplay_eq (r : BitVec 3) (v : Byte) (s : State) :
    sendDisplay r v s = { s with out := s.out ++ [.dspWrite r v], display := s.display.write r v } := rfl

/-- A write shows the value in its place and leaves the other places (R236). -/
theorem Display.write_eq (x : Display) (r : BitVec 3) (v : Byte) :
    x.write r v = { pos0 := if r = 0#3 then v else x.pos0, pos1 := if r = 1#3 then v else x.pos1,
                    pos2 := if r = 2#3 then v else x.pos2, pos3 := if r = 3#3 then v else x.pos3,
                    led := if r = 4#3 then v else x.led } := by
  unfold Display.write
  repeat' split
  all_goals simp_all

/-- `ACT.STEP` either stops on the count 0 or sends its command. -/
theorem execActStep_cases (n : Byte) (s : State) :
    (n = 0#8 ∧ execActStep n s = .refused .stepCountZero) ∨ (n ≠ 0#8 ∧ execActStep n s = .next (sendStep n s)) := by
  by_cases h : n = 0#8 <;> simp [execActStep, h]

/-- `DSP.WRITE` either sends its command or stops on a reserved register. -/
theorem execDspWrite_cases (r : BitVec 3) (v : Byte) (s : State) :
    (r.toNat ≤ 4 ∧ execDspWrite r v s = .next (sendDisplay r v s)) ∨
      (4 < r.toNat ∧ execDspWrite r v s = .refused .displayRegisterReserved) := by
  by_cases h : r.toNat ≤ 4
  · exact .inl ⟨h, by simp [execDspWrite, h]⟩
  · exact .inr ⟨by omega, by simp [execDspWrite, h]⟩

/-! ### The rotary register -/

theorem rotSet_eq (v : Word16) (s : State) :
    rotSet v s = { s with out := s.out ++ [.rotSet v], input := { s.input with rot := v } } := rfl

theorem rotMove_eq (d : Word16) (s : State) :
    rotMove d s = { s with input := { s.input with rot := s.input.rot + d } } := rfl

theorem placeKnob_eq (v : Word16) (s : State) :
    placeKnob v s = { s with
      out := s.out ++ [.rotSet v], input := { s.input with rot := v }, ui := { s.ui with lastRot := v } } := rfl

theorem seedValue_eq (s : State) :
    seedValue s = { placeKnob
        (rotEncode (BitVec.ofNat 15 (rowIdx s.cfg s.ui.active.units s.ui.active.value)) s.ui.active.reverse) s with
      ui := { s.ui with
        lastRot := rotEncode (BitVec.ofNat 15 (rowIdx s.cfg s.ui.active.units s.ui.active.value)) s.ui.active.reverse
        pending := { s.ui.pending with
          value := BitVec.ofNat 15 (rowIdx s.cfg s.ui.active.units s.ui.active.value)
          reverse := s.ui.active.reverse } } } := rfl

/-- A row index of 15 bits survives its clamp and its narrowing: the seed's index is the clamped one (R163, R178). -/
theorem rowIdx_toNat (p : Params) (u : Units) (v : RowIndex) :
    (BitVec.ofNat 15 (rowIdx p u v)).toNat = min v.toNat (lastRow p u) := by
  have := v.isLt
  rw [BitVec.toNat_ofNat, rowIdx]
  exact Nat.mod_eq_of_lt (by omega)

/-! ### The fault latch -/

theorem raiseFault_eq (k : FaultKind) (s : State) :
    raiseFault k s = { s with shared := { s.shared with fault := k } } := rfl

theorem haltMotion_eq (s : State) :
    haltMotion s = { s with
      out := s.out ++ [.actStop], actuator := { s.actuator with pulses := 0#8 }
      sync := { s.sync with cacheValid := false } } := rfl

theorem gotoUi_eq (x : UiState) (s : State) : gotoUi x s = { s with ui := { s.ui with state := x } } := rfl

theorem enterFault_eq (s : State) : enterFault s = { s with ui := { s.ui with state := .fault } } := rfl

theorem clearFault_eq (s : State) :
    clearFault s = { s with ui := { s.ui with state := .idle }, shared := { s.shared with fault := .none } } := rfl

@[simp] theorem latched_iff (k : FaultKind) : latched k = true ↔ k ≠ .none := by cases k <;> decide

@[simp] theorem latched_eq_false_iff (k : FaultKind) : latched k = false ↔ k = .none := by cases k <;> decide

/-! ### Parameters -/

/-- The fixed rows of Table P, one by one. -/
theorem fixedOk_iff (p : Params) : p.fixedOk = true ↔
    p.bias = 0x80000000#32 ∧ p.jitterThresh = 10 ∧ p.maxSteps = 255 ∧ p.unitsMin = 0 ∧ p.unitsMax = 3 ∧
      p.editTimeout = 5000 ∧ p.quad = 3 ∧ p.flashBit = 7 ∧ p.widths = {} := by
  simp only [Params.fixedOk, Bool.and_eq_true, beq_iff_eq, and_assoc]

theorem windowsOk_iff (p : Params) : p.windowsOk = true ↔
    1 ≤ p.debounceTicks ∧ p.debounceTicks ≤ 63 ∧ 1 ≤ p.aggTicks ∧ p.aggTicks ≤ 255 ∧
      1 ≤ p.alarmStable ∧ p.alarmStable ≤ 15 := by
  simp only [Params.windowsOk, Bool.and_eq_true, decide_eq_true_eq, and_assoc]

/-! ### Conditions -/

/-- The jitter filter's condition, in words (R132). -/
theorem jitter_iff (n : Nat) (d l : Word16) : jitter n d l = true ↔
    ((0 < d.toInt ∧ l.toInt < 0) ∨ (d.toInt < 0 ∧ 0 < l.toInt)) ∧ d.toInt.natAbs < n := by
  rw [jitter, Bool.and_eq_true, oppositeSign, Bool.or_eq_true, Bool.and_eq_true, Bool.and_eq_true]
  simp only [decide_eq_true_eq]

/-- More steps are owed than one command can carry (R137). -/
theorem overStepCap_iff (n : Nat) (a : Word32) : overStepCap n a = true ↔ n < a.toNat :=
  decide_eq_true_iff

/-- The edit timeout, by wraparound-safe subtraction (R162). -/
theorem timedOut_iff (n : Nat) (t l : Word32) : timedOut n t l = true ↔ n < (t - l).toNat :=
  decide_eq_true_iff

/-- Activity is a click or a rotary change (R167). -/
theorem activity_iff (c : Byte) (r l : Word16) : activity c r l = true ↔ c ≠ 0#8 ∨ r ≠ l := by
  simp [activity]

/-- The direction of a command: one of "negative" and "reversed", not both (R107). -/
theorem stepDirection_iff (x : Word32) (rv : Bool) :
    stepDirection x rv = true ↔ ¬ (x.toInt < 0 ↔ rv = true) := by
  unfold stepDirection
  by_cases h : x.toInt < 0 <;> cases rv <;> simp [h]

/-! ### Input units -/

/-- One sample of a counter debounce: the run restarts, ends with the level changed, or grows (R211, R221). -/
theorem debounce_cases (window : Nat) (level : Bool) (run : Nat) (b : Bool) :
    (b = level ∧ debounce window level run b = (level, 0)) ∨
    (b ≠ level ∧ window ≤ run + 1 ∧ debounce window level run b = (b, 0)) ∨
    (b ≠ level ∧ run + 1 < window ∧ debounce window level run b = (level, run + 1)) := by
  unfold debounce
  by_cases h : b = level
  · simp [h]
  · by_cases h' : window ≤ run + 1
    · simp [h, h']
    · exact .inr (.inr ⟨h, by omega, by simp [h, h']⟩)

/-- `AL.SAMPLE` writes the alarm unit alone. -/
theorem alSample_eq (a : Bool) (s : State) : alSample a s = s.setAlarm
    { level := (debounce s.cfg.alarmStable s.alarm.level s.alarm.run.toNat a).1
      run := BitVec.ofNat 4 (debounce s.cfg.alarmStable s.alarm.level s.alarm.run.toNat a).2 } := rfl

/-- The four things aggregation can do: count a click, nothing, close the burst, age it (R212). -/
theorem aggregate_cases (window : Nat) (click : Bool) (x : InputUnit) :
    (click = true ∧ aggregate window click x =
      { x with burstCnt := BitVec.ofNat 8 (min (x.burstCnt.toNat + 1) 255), burstAge := 0#8 }) ∨
    (click = false ∧ x.burstCnt = 0#8 ∧ aggregate window click x = x) ∨
    (click = false ∧ x.burstCnt ≠ 0#8 ∧ window ≤ x.burstAge.toNat + 1 ∧
      aggregate window click x = { x with clicksOut := x.burstCnt, burstCnt := 0#8, burstAge := 0#8 }) ∨
    (click = false ∧ x.burstCnt ≠ 0#8 ∧ x.burstAge.toNat + 1 < window ∧
      aggregate window click x = { x with burstAge := BitVec.ofNat 8 (x.burstAge.toNat + 1) }) := by
  unfold aggregate
  cases click with
  | true => exact .inl ⟨rfl, rfl⟩
  | false =>
    by_cases h : x.burstCnt = 0#8
    · exact .inr (.inl ⟨rfl, h, by simp [h]⟩)
    · by_cases h' : window ≤ x.burstAge.toNat + 1
      · exact .inr (.inr (.inl ⟨rfl, h, h', by simp [h, h']⟩))
      · exact .inr (.inr (.inr ⟨rfl, h, by omega, by simp [h, h']⟩))

@[simp] theorem aggregate_rot (window : Nat) (click : Bool) (x : InputUnit) :
    (aggregate window click x).rot = x.rot := by
  unfold aggregate
  repeat' split
  all_goals rfl

@[simp] theorem aggregate_btnLevel (window : Nat) (click : Bool) (x : InputUnit) :
    (aggregate window click x).btnLevel = x.btnLevel := by
  unfold aggregate
  repeat' split
  all_goals rfl

@[simp] theorem aggregate_btnRun (window : Nat) (click : Bool) (x : InputUnit) :
    (aggregate window click x).btnRun = x.btnRun := by
  unfold aggregate
  repeat' split
  all_goals rfl

/-- `CA.SAMPLE` writes the button unit alone; the rotary register beside it stays. -/
theorem caSample_eq (b : Bool) (s : State) :
    caSample b s = s.setInput { (caSample b s).input with rot := s.input.rot } := by
  have h : (caSample b s).input.rot = s.input.rot := aggregate_rot _ _ _
  rw [← h]
  rfl

/-! ### The phases of a `TICK` -/

theorem synAccum_cases (s : State) :
    (s.tl.filt = true ∧ synAccum s = s) ∨
    (s.tl.filt = false ∧ synAccum s = s.setSync { s.sync with
      spindlePos := accumulate s.sync.spindlePos s.tl.delta, lastDelta := s.tl.delta, lastRaw := s.levels.raw }) := by
  cases h : s.tl.filt <;> simp [synAccum, h]

theorem synRebase_cases (s : State) :
    (rebaseDue s = false ∧ synRebase s = s) ∨
    (rebaseDue s = true ∧ synRebase s = s.setSync { s.sync with
      cachedRatio := s.tl.rs, cachedReverse := s.tl.rv, cacheValid := true,
      spindlePos := accumulate s.cfg.bias s.tl.delta, servoPos := fxmul s.cfg.bias s.tl.rs }) := by
  cases h : rebaseDue s <;> simp [synRebase, h]

/-- The trigger of the re-baseline, in words (R134). -/
theorem rebaseDue_iff (s : State) :
    rebaseDue s = true ↔ RebaseDemanded s s.tl.rs s.tl.rv s.sync.spindlePos.toNat := by
  simp [rebaseDue, rebaseTrigger, RebaseDemanded, or_assoc]

theorem synFchk_eq (s : State) : synFchk s = s.setShared { s.shared with
    fault := if s.alarm.level then .servoAlarm else if overStepCap s.cfg.maxSteps s.tl.absSteps then .tooManySteps
      else s.shared.fault } := by
  unfold synFchk raiseFault
  cases overStepCap s.cfg.maxSteps s.tl.absSteps <;> cases h : s.alarm.level <;> simp [h]
  rfl

theorem synIssue_cases (s : State) :
    ((s.shared.fault ≠ .none ∨ s.tl.steps = 0#32 ∨ s.levels.idle = false) ∧ synIssue s = s) ∨
    (s.shared.fault = .none ∧ s.tl.steps ≠ 0#32 ∧ s.levels.idle = true ∧
      synIssue s = (sendStep (s.tl.absSteps.setWidth 8) (sendDir (stepDirection s.tl.steps s.tl.rv) s)).setSync
        { s.sync with servoPos := s.sync.servoPos + s.tl.steps }) := by
  unfold synIssue
  by_cases h : s.shared.fault = .none
  · by_cases h' : s.tl.steps ≠ 0#32 ∧ s.levels.idle = true
    · exact .inr ⟨h, h'.1, h'.2, by simp [h, h', latched]; rfl⟩
    · refine .inl ⟨?_, by simp [h', latched]⟩
      by_cases h0 : s.tl.steps = 0#32
      · exact .inr (.inl h0)
      · exact .inr (.inr (by simpa [h0] using h'))
  · exact .inl ⟨.inl h, by simp [(latched_iff _).2 h]⟩

theorem synHalt_cases (s : State) :
    (s.shared.fault = .none ∧ synHalt s = s) ∨ (s.shared.fault ≠ .none ∧ synHalt s = haltMotion s) := by
  by_cases h : s.shared.fault = .none
  · exact .inl ⟨h, by simp [synHalt, h, latched]⟩
  · exact .inr ⟨h, by simp [synHalt, (latched_iff _).2 h]⟩

/-! ### What lands at a boundary -/

/-- Nothing ahead: a boundary is nothing. -/
theorem boundary_of_nil (s : State) (h : s.landings = []) : boundary s = s := by simp [boundary, h]

/-- The landings at a boundary are whole `TICK`s and knob movements, as their instructions are. -/
theorem landAll_landed : ∀ (xs : List Interrupt) (s : State), Landed xs s (landAll xs s)
  | [], _ => rfl
  | .tick x :: xs, s => ⟨tick (present x s), rfl, landAll_landed xs _⟩
  | .knob d :: xs, s => ⟨rotMove d s, rfl, landAll_landed xs _⟩

/-- A boundary is nothing, or what is ahead next. -/
theorem boundary_spec (s : State) : Boundary s (boundary s) := by
  unfold boundary
  split
  · exact .inl ⟨by assumption, rfl⟩
  · exact .inr ⟨_, _, by assumption, landAll_landed _ _⟩

/-- What each landing keeps, a list of them keeps. -/
theorem landAll_induction (P : State → Prop) (hl : ∀ x s, P s → P (land x s)) :
    ∀ (xs : List Interrupt) (s : State), P s → P (landAll xs s)
  | [], _, h => h
  | x :: xs, s, h => landAll_induction P hl xs (land x s) (hl x s h)

/-- What each landing keeps, a boundary keeps, if it does not speak of the landings ahead. -/
theorem boundary_induction (P : State → Prop) (hl : ∀ x s, P s → P (land x s))
    (hs : ∀ s l, P s → P (s.setLandings l)) (s : State) (h : P s) : P (boundary s) := by
  unfold boundary
  split
  · exact h
  · exact landAll_induction P hl _ _ (hs s _ h)

/-! ### Arithmetic -/

theorem fxmul_toNat (a r : Word32) : (fxmul a r).toNat = a.toNat * r.toNat / 65536 % 2 ^ 32 := by
  simp [fxmul]

/-- A 16-bit pattern's signed value. -/
theorem word16_toInt_bounds (d : Word16) : -32768 ≤ d.toInt ∧ d.toInt ≤ 32767 := by
  have h1 := BitVec.le_toInt d
  have h2 := BitVec.toInt_lt (x := d)
  norm_num at h1 h2
  omega

/-- Accumulation adds the signed delta modulo 2^32 (R133, R143). -/
theorem accumulate_toNat (pos : Word32) (d : Word16) :
    ((accumulate pos d).toNat : Int) = ((pos.toNat : Int) + d.toInt) % 2 ^ 32 := by
  have h : accumulate pos d = BitVec.ofInt 32 ((pos.toNat : Int) + d.toInt) := by
    rw [accumulate, BitVec.ofInt_add, BitVec.signExtend, BitVec.ofInt_natCast, BitVec.ofNat_toNat, BitVec.setWidth_eq]
  rw [h, BitVec.toNat_ofInt]
  have : (0 : Int) ≤ ((pos.toNat : Int) + d.toInt) % 2 ^ 32 := Int.emod_nonneg _ (by norm_num)
  norm_num at this ⊢
  omega

/-- A fresh baseline is `BIAS + delta`, unwrapped (R134). -/
theorem accumulate_bias (p : Params) (h : p.fixedOk = true) (d : Word16) :
    ((accumulate p.bias d).toNat : Int) = 2 ^ 31 + d.toInt := by
  have := word16_toInt_bounds d
  rw [accumulate_toNat, show p.bias = 0x80000000#32 from (fixedOk_iff p |>.1 h).1]
  norm_num
  omega

/-- The magnitude of a signed 32-bit value, exact at -2^31 (R136). -/
theorem absSteps_toNat (x : Word32) : (absSteps x).toNat = x.toInt.natAbs := by
  have h1 := BitVec.le_toInt x
  have h2 := BitVec.toInt_lt (x := x)
  rw [absSteps, BitVec.toNat_ofNat]
  norm_num at h1 h2
  exact Nat.mod_eq_of_lt (by omega)

end Sys2Proof.Machine
end

