-- ==== Sys2Proof/Laws/Frames.lean ====
section
/-! SUPPORT. What each operation leaves: one lemma per group of State an operation does not write, so that no proof
unfolds an operation to see that a group is as it was. -/

namespace Sys2Proof.Machine

/-! ### emit -/

@[simp] theorem emit_cfg (c : Command) (s : State) : (emit c s).cfg = s.cfg := rfl
@[simp] theorem emit_sync (c : Command) (s : State) : (emit c s).sync = s.sync := rfl
@[simp] theorem emit_shared (c : Command) (s : State) : (emit c s).shared = s.shared := rfl
@[simp] theorem emit_ui (c : Command) (s : State) : (emit c s).ui = s.ui := rfl
@[simp] theorem emit_input (c : Command) (s : State) : (emit c s).input = s.input := rfl
@[simp] theorem emit_alarm (c : Command) (s : State) : (emit c s).alarm = s.alarm := rfl
@[simp] theorem emit_tickCount (c : Command) (s : State) : (emit c s).tickCount = s.tickCount := rfl
@[simp] theorem emit_tl (c : Command) (s : State) : (emit c s).tl = s.tl := rfl
@[simp] theorem emit_ul (c : Command) (s : State) : (emit c s).ul = s.ul := rfl
@[simp] theorem emit_levels (c : Command) (s : State) : (emit c s).levels = s.levels := rfl
@[simp] theorem emit_actuator (c : Command) (s : State) : (emit c s).actuator = s.actuator := rfl
@[simp] theorem emit_display (c : Command) (s : State) : (emit c s).display = s.display := rfl
@[simp] theorem emit_slots (c : Command) (s : State) : (emit c s).slots = s.slots := rfl
@[simp] theorem emit_landings (c : Command) (s : State) : (emit c s).landings = s.landings := rfl

/-! ### sendStop -/

@[simp] theorem sendStop_cfg (s : State) : (sendStop s).cfg = s.cfg := rfl
@[simp] theorem sendStop_sync (s : State) : (sendStop s).sync = s.sync := rfl
@[simp] theorem sendStop_shared (s : State) : (sendStop s).shared = s.shared := rfl
@[simp] theorem sendStop_ui (s : State) : (sendStop s).ui = s.ui := rfl
@[simp] theorem sendStop_input (s : State) : (sendStop s).input = s.input := rfl
@[simp] theorem sendStop_alarm (s : State) : (sendStop s).alarm = s.alarm := rfl
@[simp] theorem sendStop_tickCount (s : State) : (sendStop s).tickCount = s.tickCount := rfl
@[simp] theorem sendStop_tl (s : State) : (sendStop s).tl = s.tl := rfl
@[simp] theorem sendStop_ul (s : State) : (sendStop s).ul = s.ul := rfl
@[simp] theorem sendStop_levels (s : State) : (sendStop s).levels = s.levels := rfl
@[simp] theorem sendStop_display (s : State) : (sendStop s).display = s.display := rfl
@[simp] theorem sendStop_slots (s : State) : (sendStop s).slots = s.slots := rfl
@[simp] theorem sendStop_landings (s : State) : (sendStop s).landings = s.landings := rfl

/-! ### sendDir -/

@[simp] theorem sendDir_cfg (d : Bool) (s : State) : (sendDir d s).cfg = s.cfg := rfl
@[simp] theorem sendDir_sync (d : Bool) (s : State) : (sendDir d s).sync = s.sync := rfl
@[simp] theorem sendDir_shared (d : Bool) (s : State) : (sendDir d s).shared = s.shared := rfl
@[simp] theorem sendDir_ui (d : Bool) (s : State) : (sendDir d s).ui = s.ui := rfl
@[simp] theorem sendDir_input (d : Bool) (s : State) : (sendDir d s).input = s.input := rfl
@[simp] theorem sendDir_alarm (d : Bool) (s : State) : (sendDir d s).alarm = s.alarm := rfl
@[simp] theorem sendDir_tickCount (d : Bool) (s : State) : (sendDir d s).tickCount = s.tickCount := rfl
@[simp] theorem sendDir_tl (d : Bool) (s : State) : (sendDir d s).tl = s.tl := rfl
@[simp] theorem sendDir_ul (d : Bool) (s : State) : (sendDir d s).ul = s.ul := rfl
@[simp] theorem sendDir_levels (d : Bool) (s : State) : (sendDir d s).levels = s.levels := rfl
@[simp] theorem sendDir_display (d : Bool) (s : State) : (sendDir d s).display = s.display := rfl
@[simp] theorem sendDir_slots (d : Bool) (s : State) : (sendDir d s).slots = s.slots := rfl
@[simp] theorem sendDir_landings (d : Bool) (s : State) : (sendDir d s).landings = s.landings := rfl

/-! ### sendStep -/

@[simp] theorem sendStep_cfg (n : Byte) (s : State) : (sendStep n s).cfg = s.cfg := rfl
@[simp] theorem sendStep_sync (n : Byte) (s : State) : (sendStep n s).sync = s.sync := rfl
@[simp] theorem sendStep_shared (n : Byte) (s : State) : (sendStep n s).shared = s.shared := rfl
@[simp] theorem sendStep_ui (n : Byte) (s : State) : (sendStep n s).ui = s.ui := rfl
@[simp] theorem sendStep_input (n : Byte) (s : State) : (sendStep n s).input = s.input := rfl
@[simp] theorem sendStep_alarm (n : Byte) (s : State) : (sendStep n s).alarm = s.alarm := rfl
@[simp] theorem sendStep_tickCount (n : Byte) (s : State) : (sendStep n s).tickCount = s.tickCount := rfl
@[simp] theorem sendStep_tl (n : Byte) (s : State) : (sendStep n s).tl = s.tl := rfl
@[simp] theorem sendStep_ul (n : Byte) (s : State) : (sendStep n s).ul = s.ul := rfl
@[simp] theorem sendStep_display (n : Byte) (s : State) : (sendStep n s).display = s.display := rfl
@[simp] theorem sendStep_slots (n : Byte) (s : State) : (sendStep n s).slots = s.slots := rfl
@[simp] theorem sendStep_landings (n : Byte) (s : State) : (sendStep n s).landings = s.landings := rfl

/-! ### sendDisplay -/

@[simp] theorem sendDisplay_cfg (r : BitVec 3) (v : Byte) (s : State) : (sendDisplay r v s).cfg = s.cfg := rfl
@[simp] theorem sendDisplay_sync (r : BitVec 3) (v : Byte) (s : State) : (sendDisplay r v s).sync = s.sync := rfl
@[simp] theorem sendDisplay_shared (r : BitVec 3) (v : Byte) (s : State) : (sendDisplay r v s).shared = s.shared := rfl
@[simp] theorem sendDisplay_ui (r : BitVec 3) (v : Byte) (s : State) : (sendDisplay r v s).ui = s.ui := rfl
@[simp] theorem sendDisplay_input (r : BitVec 3) (v : Byte) (s : State) : (sendDisplay r v s).input = s.input := rfl
@[simp] theorem sendDisplay_alarm (r : BitVec 3) (v : Byte) (s : State) : (sendDisplay r v s).alarm = s.alarm := rfl
@[simp] theorem sendDisplay_tickCount (r : BitVec 3) (v : Byte) (s : State) : (sendDisplay r v s).tickCount = s.tickCount := rfl
@[simp] theorem sendDisplay_tl (r : BitVec 3) (v : Byte) (s : State) : (sendDisplay r v s).tl = s.tl := rfl
@[simp] theorem sendDisplay_ul (r : BitVec 3) (v : Byte) (s : State) : (sendDisplay r v s).ul = s.ul := rfl
@[simp] theorem sendDisplay_levels (r : BitVec 3) (v : Byte) (s : State) : (sendDisplay r v s).levels = s.levels := rfl
@[simp] theorem sendDisplay_actuator (r : BitVec 3) (v : Byte) (s : State) : (sendDisplay r v s).actuator = s.actuator := rfl
@[simp] theorem sendDisplay_slots (r : BitVec 3) (v : Byte) (s : State) : (sendDisplay r v s).slots = s.slots := rfl
@[simp] theorem sendDisplay_landings (r : BitVec 3) (v : Byte) (s : State) : (sendDisplay r v s).landings = s.landings := rfl

/-! ### rotSet -/

@[simp] theorem rotSet_cfg (v : Word16) (s : State) : (rotSet v s).cfg = s.cfg := rfl
@[simp] theorem rotSet_sync (v : Word16) (s : State) : (rotSet v s).sync = s.sync := rfl
@[simp] theorem rotSet_shared (v : Word16) (s : State) : (rotSet v s).shared = s.shared := rfl
@[simp] theorem rotSet_ui (v : Word16) (s : State) : (rotSet v s).ui = s.ui := rfl
@[simp] theorem rotSet_alarm (v : Word16) (s : State) : (rotSet v s).alarm = s.alarm := rfl
@[simp] theorem rotSet_tickCount (v : Word16) (s : State) : (rotSet v s).tickCount = s.tickCount := rfl
@[simp] theorem rotSet_tl (v : Word16) (s : State) : (rotSet v s).tl = s.tl := rfl
@[simp] theorem rotSet_ul (v : Word16) (s : State) : (rotSet v s).ul = s.ul := rfl
@[simp] theorem rotSet_levels (v : Word16) (s : State) : (rotSet v s).levels = s.levels := rfl
@[simp] theorem rotSet_actuator (v : Word16) (s : State) : (rotSet v s).actuator = s.actuator := rfl
@[simp] theorem rotSet_display (v : Word16) (s : State) : (rotSet v s).display = s.display := rfl
@[simp] theorem rotSet_slots (v : Word16) (s : State) : (rotSet v s).slots = s.slots := rfl
@[simp] theorem rotSet_landings (v : Word16) (s : State) : (rotSet v s).landings = s.landings := rfl

/-! ### rotMove -/

@[simp] theorem rotMove_cfg (d : Word16) (s : State) : (rotMove d s).cfg = s.cfg := rfl
@[simp] theorem rotMove_sync (d : Word16) (s : State) : (rotMove d s).sync = s.sync := rfl
@[simp] theorem rotMove_shared (d : Word16) (s : State) : (rotMove d s).shared = s.shared := rfl
@[simp] theorem rotMove_ui (d : Word16) (s : State) : (rotMove d s).ui = s.ui := rfl
@[simp] theorem rotMove_alarm (d : Word16) (s : State) : (rotMove d s).alarm = s.alarm := rfl
@[simp] theorem rotMove_tickCount (d : Word16) (s : State) : (rotMove d s).tickCount = s.tickCount := rfl
@[simp] theorem rotMove_tl (d : Word16) (s : State) : (rotMove d s).tl = s.tl := rfl
@[simp] theorem rotMove_ul (d : Word16) (s : State) : (rotMove d s).ul = s.ul := rfl
@[simp] theorem rotMove_levels (d : Word16) (s : State) : (rotMove d s).levels = s.levels := rfl
@[simp] theorem rotMove_actuator (d : Word16) (s : State) : (rotMove d s).actuator = s.actuator := rfl
@[simp] theorem rotMove_display (d : Word16) (s : State) : (rotMove d s).display = s.display := rfl
@[simp] theorem rotMove_out (d : Word16) (s : State) : (rotMove d s).out = s.out := rfl
@[simp] theorem rotMove_slots (d : Word16) (s : State) : (rotMove d s).slots = s.slots := rfl
@[simp] theorem rotMove_landings (d : Word16) (s : State) : (rotMove d s).landings = s.landings := rfl

/-! ### placeKnob -/

@[simp] theorem placeKnob_cfg (v : Word16) (s : State) : (placeKnob v s).cfg = s.cfg := rfl
@[simp] theorem placeKnob_sync (v : Word16) (s : State) : (placeKnob v s).sync = s.sync := rfl
@[simp] theorem placeKnob_shared (v : Word16) (s : State) : (placeKnob v s).shared = s.shared := rfl
@[simp] theorem placeKnob_alarm (v : Word16) (s : State) : (placeKnob v s).alarm = s.alarm := rfl
@[simp] theorem placeKnob_tickCount (v : Word16) (s : State) : (placeKnob v s).tickCount = s.tickCount := rfl
@[simp] theorem placeKnob_tl (v : Word16) (s : State) : (placeKnob v s).tl = s.tl := rfl
@[simp] theorem placeKnob_ul (v : Word16) (s : State) : (placeKnob v s).ul = s.ul := rfl
@[simp] theorem placeKnob_levels (v : Word16) (s : State) : (placeKnob v s).levels = s.levels := rfl
@[simp] theorem placeKnob_actuator (v : Word16) (s : State) : (placeKnob v s).actuator = s.actuator := rfl
@[simp] theorem placeKnob_display (v : Word16) (s : State) : (placeKnob v s).display = s.display := rfl
@[simp] theorem placeKnob_slots (v : Word16) (s : State) : (placeKnob v s).slots = s.slots := rfl
@[simp] theorem placeKnob_landings (v : Word16) (s : State) : (placeKnob v s).landings = s.landings := rfl

/-! ### seedValue -/

@[simp] theorem seedValue_cfg (s : State) : (seedValue s).cfg = s.cfg := rfl
@[simp] theorem seedValue_sync (s : State) : (seedValue s).sync = s.sync := rfl
@[simp] theorem seedValue_shared (s : State) : (seedValue s).shared = s.shared := rfl
@[simp] theorem seedValue_alarm (s : State) : (seedValue s).alarm = s.alarm := rfl
@[simp] theorem seedValue_tickCount (s : State) : (seedValue s).tickCount = s.tickCount := rfl
@[simp] theorem seedValue_tl (s : State) : (seedValue s).tl = s.tl := rfl
@[simp] theorem seedValue_ul (s : State) : (seedValue s).ul = s.ul := rfl
@[simp] theorem seedValue_levels (s : State) : (seedValue s).levels = s.levels := rfl
@[simp] theorem seedValue_actuator (s : State) : (seedValue s).actuator = s.actuator := rfl
@[simp] theorem seedValue_display (s : State) : (seedValue s).display = s.display := rfl
@[simp] theorem seedValue_slots (s : State) : (seedValue s).slots = s.slots := rfl
@[simp] theorem seedValue_landings (s : State) : (seedValue s).landings = s.landings := rfl

/-! ### gotoUi -/

@[simp] theorem gotoUi_cfg (x : UiState) (s : State) : (gotoUi x s).cfg = s.cfg := rfl
@[simp] theorem gotoUi_sync (x : UiState) (s : State) : (gotoUi x s).sync = s.sync := rfl
@[simp] theorem gotoUi_shared (x : UiState) (s : State) : (gotoUi x s).shared = s.shared := rfl
@[simp] theorem gotoUi_input (x : UiState) (s : State) : (gotoUi x s).input = s.input := rfl
@[simp] theorem gotoUi_alarm (x : UiState) (s : State) : (gotoUi x s).alarm = s.alarm := rfl
@[simp] theorem gotoUi_tickCount (x : UiState) (s : State) : (gotoUi x s).tickCount = s.tickCount := rfl
@[simp] theorem gotoUi_tl (x : UiState) (s : State) : (gotoUi x s).tl = s.tl := rfl
@[simp] theorem gotoUi_ul (x : UiState) (s : State) : (gotoUi x s).ul = s.ul := rfl
@[simp] theorem gotoUi_levels (x : UiState) (s : State) : (gotoUi x s).levels = s.levels := rfl
@[simp] theorem gotoUi_actuator (x : UiState) (s : State) : (gotoUi x s).actuator = s.actuator := rfl
@[simp] theorem gotoUi_display (x : UiState) (s : State) : (gotoUi x s).display = s.display := rfl
@[simp] theorem gotoUi_out (x : UiState) (s : State) : (gotoUi x s).out = s.out := rfl
@[simp] theorem gotoUi_slots (x : UiState) (s : State) : (gotoUi x s).slots = s.slots := rfl
@[simp] theorem gotoUi_landings (x : UiState) (s : State) : (gotoUi x s).landings = s.landings := rfl

/-! ### raiseFault -/

@[simp] theorem raiseFault_cfg (k : FaultKind) (s : State) : (raiseFault k s).cfg = s.cfg := rfl
@[simp] theorem raiseFault_sync (k : FaultKind) (s : State) : (raiseFault k s).sync = s.sync := rfl
@[simp] theorem raiseFault_ui (k : FaultKind) (s : State) : (raiseFault k s).ui = s.ui := rfl
@[simp] theorem raiseFault_input (k : FaultKind) (s : State) : (raiseFault k s).input = s.input := rfl
@[simp] theorem raiseFault_alarm (k : FaultKind) (s : State) : (raiseFault k s).alarm = s.alarm := rfl
@[simp] theorem raiseFault_tickCount (k : FaultKind) (s : State) : (raiseFault k s).tickCount = s.tickCount := rfl
@[simp] theorem raiseFault_tl (k : FaultKind) (s : State) : (raiseFault k s).tl = s.tl := rfl
@[simp] theorem raiseFault_ul (k : FaultKind) (s : State) : (raiseFault k s).ul = s.ul := rfl
@[simp] theorem raiseFault_levels (k : FaultKind) (s : State) : (raiseFault k s).levels = s.levels := rfl
@[simp] theorem raiseFault_actuator (k : FaultKind) (s : State) : (raiseFault k s).actuator = s.actuator := rfl
@[simp] theorem raiseFault_display (k : FaultKind) (s : State) : (raiseFault k s).display = s.display := rfl
@[simp] theorem raiseFault_out (k : FaultKind) (s : State) : (raiseFault k s).out = s.out := rfl
@[simp] theorem raiseFault_slots (k : FaultKind) (s : State) : (raiseFault k s).slots = s.slots := rfl
@[simp] theorem raiseFault_landings (k : FaultKind) (s : State) : (raiseFault k s).landings = s.landings := rfl

/-! ### haltMotion -/

@[simp] theorem haltMotion_cfg (s : State) : (haltMotion s).cfg = s.cfg := rfl
@[simp] theorem haltMotion_shared (s : State) : (haltMotion s).shared = s.shared := rfl
@[simp] theorem haltMotion_ui (s : State) : (haltMotion s).ui = s.ui := rfl
@[simp] theorem haltMotion_input (s : State) : (haltMotion s).input = s.input := rfl
@[simp] theorem haltMotion_alarm (s : State) : (haltMotion s).alarm = s.alarm := rfl
@[simp] theorem haltMotion_tickCount (s : State) : (haltMotion s).tickCount = s.tickCount := rfl
@[simp] theorem haltMotion_tl (s : State) : (haltMotion s).tl = s.tl := rfl
@[simp] theorem haltMotion_ul (s : State) : (haltMotion s).ul = s.ul := rfl
@[simp] theorem haltMotion_levels (s : State) : (haltMotion s).levels = s.levels := rfl
@[simp] theorem haltMotion_display (s : State) : (haltMotion s).display = s.display := rfl
@[simp] theorem haltMotion_slots (s : State) : (haltMotion s).slots = s.slots := rfl
@[simp] theorem haltMotion_landings (s : State) : (haltMotion s).landings = s.landings := rfl

/-! ### clearFault -/

@[simp] theorem clearFault_cfg (s : State) : (clearFault s).cfg = s.cfg := rfl
@[simp] theorem clearFault_sync (s : State) : (clearFault s).sync = s.sync := rfl
@[simp] theorem clearFault_input (s : State) : (clearFault s).input = s.input := rfl
@[simp] theorem clearFault_alarm (s : State) : (clearFault s).alarm = s.alarm := rfl
@[simp] theorem clearFault_tickCount (s : State) : (clearFault s).tickCount = s.tickCount := rfl
@[simp] theorem clearFault_tl (s : State) : (clearFault s).tl = s.tl := rfl
@[simp] theorem clearFault_ul (s : State) : (clearFault s).ul = s.ul := rfl
@[simp] theorem clearFault_levels (s : State) : (clearFault s).levels = s.levels := rfl
@[simp] theorem clearFault_actuator (s : State) : (clearFault s).actuator = s.actuator := rfl
@[simp] theorem clearFault_display (s : State) : (clearFault s).display = s.display := rfl
@[simp] theorem clearFault_out (s : State) : (clearFault s).out = s.out := rfl
@[simp] theorem clearFault_slots (s : State) : (clearFault s).slots = s.slots := rfl
@[simp] theorem clearFault_landings (s : State) : (clearFault s).landings = s.landings := rfl

/-! ### caSample -/

@[simp] theorem caSample_cfg (b : Bool) (s : State) : (caSample b s).cfg = s.cfg := rfl
@[simp] theorem caSample_sync (b : Bool) (s : State) : (caSample b s).sync = s.sync := rfl
@[simp] theorem caSample_shared (b : Bool) (s : State) : (caSample b s).shared = s.shared := rfl
@[simp] theorem caSample_ui (b : Bool) (s : State) : (caSample b s).ui = s.ui := rfl
@[simp] theorem caSample_alarm (b : Bool) (s : State) : (caSample b s).alarm = s.alarm := rfl
@[simp] theorem caSample_tickCount (b : Bool) (s : State) : (caSample b s).tickCount = s.tickCount := rfl
@[simp] theorem caSample_tl (b : Bool) (s : State) : (caSample b s).tl = s.tl := rfl
@[simp] theorem caSample_ul (b : Bool) (s : State) : (caSample b s).ul = s.ul := rfl
@[simp] theorem caSample_levels (b : Bool) (s : State) : (caSample b s).levels = s.levels := rfl
@[simp] theorem caSample_actuator (b : Bool) (s : State) : (caSample b s).actuator = s.actuator := rfl
@[simp] theorem caSample_display (b : Bool) (s : State) : (caSample b s).display = s.display := rfl
@[simp] theorem caSample_out (b : Bool) (s : State) : (caSample b s).out = s.out := rfl
@[simp] theorem caSample_slots (b : Bool) (s : State) : (caSample b s).slots = s.slots := rfl
@[simp] theorem caSample_landings (b : Bool) (s : State) : (caSample b s).landings = s.landings := rfl

/-! ### alSample -/

@[simp] theorem alSample_cfg (a : Bool) (s : State) : (alSample a s).cfg = s.cfg := rfl
@[simp] theorem alSample_sync (a : Bool) (s : State) : (alSample a s).sync = s.sync := rfl
@[simp] theorem alSample_shared (a : Bool) (s : State) : (alSample a s).shared = s.shared := rfl
@[simp] theorem alSample_ui (a : Bool) (s : State) : (alSample a s).ui = s.ui := rfl
@[simp] theorem alSample_input (a : Bool) (s : State) : (alSample a s).input = s.input := rfl
@[simp] theorem alSample_tickCount (a : Bool) (s : State) : (alSample a s).tickCount = s.tickCount := rfl
@[simp] theorem alSample_tl (a : Bool) (s : State) : (alSample a s).tl = s.tl := rfl
@[simp] theorem alSample_ul (a : Bool) (s : State) : (alSample a s).ul = s.ul := rfl
@[simp] theorem alSample_levels (a : Bool) (s : State) : (alSample a s).levels = s.levels := rfl
@[simp] theorem alSample_actuator (a : Bool) (s : State) : (alSample a s).actuator = s.actuator := rfl
@[simp] theorem alSample_display (a : Bool) (s : State) : (alSample a s).display = s.display := rfl
@[simp] theorem alSample_out (a : Bool) (s : State) : (alSample a s).out = s.out := rfl
@[simp] theorem alSample_slots (a : Bool) (s : State) : (alSample a s).slots = s.slots := rfl
@[simp] theorem alSample_landings (a : Bool) (s : State) : (alSample a s).landings = s.landings := rfl

/-! ### caRead -/

@[simp] theorem caRead_cfg (s : State) : (caRead s).cfg = s.cfg := rfl
@[simp] theorem caRead_sync (s : State) : (caRead s).sync = s.sync := rfl
@[simp] theorem caRead_shared (s : State) : (caRead s).shared = s.shared := rfl
@[simp] theorem caRead_ui (s : State) : (caRead s).ui = s.ui := rfl
@[simp] theorem caRead_alarm (s : State) : (caRead s).alarm = s.alarm := rfl
@[simp] theorem caRead_tickCount (s : State) : (caRead s).tickCount = s.tickCount := rfl
@[simp] theorem caRead_tl (s : State) : (caRead s).tl = s.tl := rfl
@[simp] theorem caRead_levels (s : State) : (caRead s).levels = s.levels := rfl
@[simp] theorem caRead_actuator (s : State) : (caRead s).actuator = s.actuator := rfl
@[simp] theorem caRead_display (s : State) : (caRead s).display = s.display := rfl
@[simp] theorem caRead_out (s : State) : (caRead s).out = s.out := rfl
@[simp] theorem caRead_slots (s : State) : (caRead s).slots = s.slots := rfl
@[simp] theorem caRead_landings (s : State) : (caRead s).landings = s.landings := rfl

/-! ### rotGet -/

@[simp] theorem rotGet_cfg (s : State) : (rotGet s).cfg = s.cfg := rfl
@[simp] theorem rotGet_sync (s : State) : (rotGet s).sync = s.sync := rfl
@[simp] theorem rotGet_shared (s : State) : (rotGet s).shared = s.shared := rfl
@[simp] theorem rotGet_ui (s : State) : (rotGet s).ui = s.ui := rfl
@[simp] theorem rotGet_input (s : State) : (rotGet s).input = s.input := rfl
@[simp] theorem rotGet_alarm (s : State) : (rotGet s).alarm = s.alarm := rfl
@[simp] theorem rotGet_tickCount (s : State) : (rotGet s).tickCount = s.tickCount := rfl
@[simp] theorem rotGet_tl (s : State) : (rotGet s).tl = s.tl := rfl
@[simp] theorem rotGet_levels (s : State) : (rotGet s).levels = s.levels := rfl
@[simp] theorem rotGet_actuator (s : State) : (rotGet s).actuator = s.actuator := rfl
@[simp] theorem rotGet_display (s : State) : (rotGet s).display = s.display := rfl
@[simp] theorem rotGet_out (s : State) : (rotGet s).out = s.out := rfl
@[simp] theorem rotGet_slots (s : State) : (rotGet s).slots = s.slots := rfl
@[simp] theorem rotGet_landings (s : State) : (rotGet s).landings = s.landings := rfl

/-! ### tickPrologue -/

@[simp] theorem tickPrologue_cfg (s : State) : (tickPrologue s).cfg = s.cfg := rfl
@[simp] theorem tickPrologue_sync (s : State) : (tickPrologue s).sync = s.sync := rfl
@[simp] theorem tickPrologue_shared (s : State) : (tickPrologue s).shared = s.shared := rfl
@[simp] theorem tickPrologue_ui (s : State) : (tickPrologue s).ui = s.ui := rfl
@[simp] theorem tickPrologue_tl (s : State) : (tickPrologue s).tl = s.tl := rfl
@[simp] theorem tickPrologue_ul (s : State) : (tickPrologue s).ul = s.ul := rfl
@[simp] theorem tickPrologue_levels (s : State) : (tickPrologue s).levels = s.levels := rfl
@[simp] theorem tickPrologue_actuator (s : State) : (tickPrologue s).actuator = s.actuator := rfl
@[simp] theorem tickPrologue_display (s : State) : (tickPrologue s).display = s.display := rfl
@[simp] theorem tickPrologue_out (s : State) : (tickPrologue s).out = s.out := rfl
@[simp] theorem tickPrologue_slots (s : State) : (tickPrologue s).slots = s.slots := rfl
@[simp] theorem tickPrologue_landings (s : State) : (tickPrologue s).landings = s.landings := rfl

/-! ### synSample -/

@[simp] theorem synSample_cfg (s : State) : (synSample s).cfg = s.cfg := rfl
@[simp] theorem synSample_sync (s : State) : (synSample s).sync = s.sync := rfl
@[simp] theorem synSample_shared (s : State) : (synSample s).shared = s.shared := rfl
@[simp] theorem synSample_ui (s : State) : (synSample s).ui = s.ui := rfl
@[simp] theorem synSample_input (s : State) : (synSample s).input = s.input := rfl
@[simp] theorem synSample_alarm (s : State) : (synSample s).alarm = s.alarm := rfl
@[simp] theorem synSample_tickCount (s : State) : (synSample s).tickCount = s.tickCount := rfl
@[simp] theorem synSample_ul (s : State) : (synSample s).ul = s.ul := rfl
@[simp] theorem synSample_levels (s : State) : (synSample s).levels = s.levels := rfl
@[simp] theorem synSample_actuator (s : State) : (synSample s).actuator = s.actuator := rfl
@[simp] theorem synSample_display (s : State) : (synSample s).display = s.display := rfl
@[simp] theorem synSample_out (s : State) : (synSample s).out = s.out := rfl
@[simp] theorem synSample_slots (s : State) : (synSample s).slots = s.slots := rfl
@[simp] theorem synSample_landings (s : State) : (synSample s).landings = s.landings := rfl

/-! ### synDelta -/

@[simp] theorem synDelta_cfg (s : State) : (synDelta s).cfg = s.cfg := rfl
@[simp] theorem synDelta_sync (s : State) : (synDelta s).sync = s.sync := rfl
@[simp] theorem synDelta_shared (s : State) : (synDelta s).shared = s.shared := rfl
@[simp] theorem synDelta_ui (s : State) : (synDelta s).ui = s.ui := rfl
@[simp] theorem synDelta_input (s : State) : (synDelta s).input = s.input := rfl
@[simp] theorem synDelta_alarm (s : State) : (synDelta s).alarm = s.alarm := rfl
@[simp] theorem synDelta_tickCount (s : State) : (synDelta s).tickCount = s.tickCount := rfl
@[simp] theorem synDelta_ul (s : State) : (synDelta s).ul = s.ul := rfl
@[simp] theorem synDelta_levels (s : State) : (synDelta s).levels = s.levels := rfl
@[simp] theorem synDelta_actuator (s : State) : (synDelta s).actuator = s.actuator := rfl
@[simp] theorem synDelta_display (s : State) : (synDelta s).display = s.display := rfl
@[simp] theorem synDelta_out (s : State) : (synDelta s).out = s.out := rfl
@[simp] theorem synDelta_slots (s : State) : (synDelta s).slots = s.slots := rfl
@[simp] theorem synDelta_landings (s : State) : (synDelta s).landings = s.landings := rfl

/-! ### synFilter -/

@[simp] theorem synFilter_cfg (s : State) : (synFilter s).cfg = s.cfg := rfl
@[simp] theorem synFilter_sync (s : State) : (synFilter s).sync = s.sync := rfl
@[simp] theorem synFilter_shared (s : State) : (synFilter s).shared = s.shared := rfl
@[simp] theorem synFilter_ui (s : State) : (synFilter s).ui = s.ui := rfl
@[simp] theorem synFilter_input (s : State) : (synFilter s).input = s.input := rfl
@[simp] theorem synFilter_alarm (s : State) : (synFilter s).alarm = s.alarm := rfl
@[simp] theorem synFilter_tickCount (s : State) : (synFilter s).tickCount = s.tickCount := rfl
@[simp] theorem synFilter_ul (s : State) : (synFilter s).ul = s.ul := rfl
@[simp] theorem synFilter_levels (s : State) : (synFilter s).levels = s.levels := rfl
@[simp] theorem synFilter_actuator (s : State) : (synFilter s).actuator = s.actuator := rfl
@[simp] theorem synFilter_display (s : State) : (synFilter s).display = s.display := rfl
@[simp] theorem synFilter_out (s : State) : (synFilter s).out = s.out := rfl
@[simp] theorem synFilter_slots (s : State) : (synFilter s).slots = s.slots := rfl
@[simp] theorem synFilter_landings (s : State) : (synFilter s).landings = s.landings := rfl

/-! ### synAccum -/

@[simp] theorem synAccum_cfg (s : State) : (synAccum s).cfg = s.cfg := by
  rcases synAccum_cases s with h | h <;> simp [h]
@[simp] theorem synAccum_shared (s : State) : (synAccum s).shared = s.shared := by
  rcases synAccum_cases s with h | h <;> simp [h]
@[simp] theorem synAccum_ui (s : State) : (synAccum s).ui = s.ui := by
  rcases synAccum_cases s with h | h <;> simp [h]
@[simp] theorem synAccum_input (s : State) : (synAccum s).input = s.input := by
  rcases synAccum_cases s with h | h <;> simp [h]
@[simp] theorem synAccum_alarm (s : State) : (synAccum s).alarm = s.alarm := by
  rcases synAccum_cases s with h | h <;> simp [h]
@[simp] theorem synAccum_tickCount (s : State) : (synAccum s).tickCount = s.tickCount := by
  rcases synAccum_cases s with h | h <;> simp [h]
@[simp] theorem synAccum_tl (s : State) : (synAccum s).tl = s.tl := by
  rcases synAccum_cases s with h | h <;> simp [h]
@[simp] theorem synAccum_ul (s : State) : (synAccum s).ul = s.ul := by
  rcases synAccum_cases s with h | h <;> simp [h]
@[simp] theorem synAccum_levels (s : State) : (synAccum s).levels = s.levels := by
  rcases synAccum_cases s with h | h <;> simp [h]
@[simp] theorem synAccum_actuator (s : State) : (synAccum s).actuator = s.actuator := by
  rcases synAccum_cases s with h | h <;> simp [h]
@[simp] theorem synAccum_display (s : State) : (synAccum s).display = s.display := by
  rcases synAccum_cases s with h | h <;> simp [h]
@[simp] theorem synAccum_out (s : State) : (synAccum s).out = s.out := by
  rcases synAccum_cases s with h | h <;> simp [h]
@[simp] theorem synAccum_slots (s : State) : (synAccum s).slots = s.slots := by
  rcases synAccum_cases s with h | h <;> simp [h]
@[simp] theorem synAccum_landings (s : State) : (synAccum s).landings = s.landings := by
  rcases synAccum_cases s with h | h <;> simp [h]

/-! ### synRebase -/

@[simp] theorem synRebase_cfg (s : State) : (synRebase s).cfg = s.cfg := by
  rcases synRebase_cases s with h | h <;> simp [h]
@[simp] theorem synRebase_shared (s : State) : (synRebase s).shared = s.shared := by
  rcases synRebase_cases s with h | h <;> simp [h]
@[simp] theorem synRebase_ui (s : State) : (synRebase s).ui = s.ui := by
  rcases synRebase_cases s with h | h <;> simp [h]
@[simp] theorem synRebase_input (s : State) : (synRebase s).input = s.input := by
  rcases synRebase_cases s with h | h <;> simp [h]
@[simp] theorem synRebase_alarm (s : State) : (synRebase s).alarm = s.alarm := by
  rcases synRebase_cases s with h | h <;> simp [h]
@[simp] theorem synRebase_tickCount (s : State) : (synRebase s).tickCount = s.tickCount := by
  rcases synRebase_cases s with h | h <;> simp [h]
@[simp] theorem synRebase_tl (s : State) : (synRebase s).tl = s.tl := by
  rcases synRebase_cases s with h | h <;> simp [h]
@[simp] theorem synRebase_ul (s : State) : (synRebase s).ul = s.ul := by
  rcases synRebase_cases s with h | h <;> simp [h]
@[simp] theorem synRebase_levels (s : State) : (synRebase s).levels = s.levels := by
  rcases synRebase_cases s with h | h <;> simp [h]
@[simp] theorem synRebase_actuator (s : State) : (synRebase s).actuator = s.actuator := by
  rcases synRebase_cases s with h | h <;> simp [h]
@[simp] theorem synRebase_display (s : State) : (synRebase s).display = s.display := by
  rcases synRebase_cases s with h | h <;> simp [h]
@[simp] theorem synRebase_out (s : State) : (synRebase s).out = s.out := by
  rcases synRebase_cases s with h | h <;> simp [h]
@[simp] theorem synRebase_slots (s : State) : (synRebase s).slots = s.slots := by
  rcases synRebase_cases s with h | h <;> simp [h]
@[simp] theorem synRebase_landings (s : State) : (synRebase s).landings = s.landings := by
  rcases synRebase_cases s with h | h <;> simp [h]

/-! ### synTarget -/

@[simp] theorem synTarget_cfg (s : State) : (synTarget s).cfg = s.cfg := rfl
@[simp] theorem synTarget_sync (s : State) : (synTarget s).sync = s.sync := rfl
@[simp] theorem synTarget_shared (s : State) : (synTarget s).shared = s.shared := rfl
@[simp] theorem synTarget_ui (s : State) : (synTarget s).ui = s.ui := rfl
@[simp] theorem synTarget_input (s : State) : (synTarget s).input = s.input := rfl
@[simp] theorem synTarget_alarm (s : State) : (synTarget s).alarm = s.alarm := rfl
@[simp] theorem synTarget_tickCount (s : State) : (synTarget s).tickCount = s.tickCount := rfl
@[simp] theorem synTarget_ul (s : State) : (synTarget s).ul = s.ul := rfl
@[simp] theorem synTarget_levels (s : State) : (synTarget s).levels = s.levels := rfl
@[simp] theorem synTarget_actuator (s : State) : (synTarget s).actuator = s.actuator := rfl
@[simp] theorem synTarget_display (s : State) : (synTarget s).display = s.display := rfl
@[simp] theorem synTarget_out (s : State) : (synTarget s).out = s.out := rfl
@[simp] theorem synTarget_slots (s : State) : (synTarget s).slots = s.slots := rfl
@[simp] theorem synTarget_landings (s : State) : (synTarget s).landings = s.landings := rfl

/-! ### synSteps -/

@[simp] theorem synSteps_cfg (s : State) : (synSteps s).cfg = s.cfg := rfl
@[simp] theorem synSteps_sync (s : State) : (synSteps s).sync = s.sync := rfl
@[simp] theorem synSteps_shared (s : State) : (synSteps s).shared = s.shared := rfl
@[simp] theorem synSteps_ui (s : State) : (synSteps s).ui = s.ui := rfl
@[simp] theorem synSteps_input (s : State) : (synSteps s).input = s.input := rfl
@[simp] theorem synSteps_alarm (s : State) : (synSteps s).alarm = s.alarm := rfl
@[simp] theorem synSteps_tickCount (s : State) : (synSteps s).tickCount = s.tickCount := rfl
@[simp] theorem synSteps_ul (s : State) : (synSteps s).ul = s.ul := rfl
@[simp] theorem synSteps_levels (s : State) : (synSteps s).levels = s.levels := rfl
@[simp] theorem synSteps_actuator (s : State) : (synSteps s).actuator = s.actuator := rfl
@[simp] theorem synSteps_display (s : State) : (synSteps s).display = s.display := rfl
@[simp] theorem synSteps_out (s : State) : (synSteps s).out = s.out := rfl
@[simp] theorem synSteps_slots (s : State) : (synSteps s).slots = s.slots := rfl
@[simp] theorem synSteps_landings (s : State) : (synSteps s).landings = s.landings := rfl

/-! ### synFchk -/

@[simp] theorem synFchk_cfg (s : State) : (synFchk s).cfg = s.cfg := by rw [synFchk_eq]; rfl
@[simp] theorem synFchk_sync (s : State) : (synFchk s).sync = s.sync := by rw [synFchk_eq]; rfl
@[simp] theorem synFchk_ui (s : State) : (synFchk s).ui = s.ui := by rw [synFchk_eq]; rfl
@[simp] theorem synFchk_input (s : State) : (synFchk s).input = s.input := by rw [synFchk_eq]; rfl
@[simp] theorem synFchk_alarm (s : State) : (synFchk s).alarm = s.alarm := by rw [synFchk_eq]; rfl
@[simp] theorem synFchk_tickCount (s : State) : (synFchk s).tickCount = s.tickCount := by rw [synFchk_eq]; rfl
@[simp] theorem synFchk_tl (s : State) : (synFchk s).tl = s.tl := by rw [synFchk_eq]; rfl
@[simp] theorem synFchk_ul (s : State) : (synFchk s).ul = s.ul := by rw [synFchk_eq]; rfl
@[simp] theorem synFchk_levels (s : State) : (synFchk s).levels = s.levels := by rw [synFchk_eq]; rfl
@[simp] theorem synFchk_actuator (s : State) : (synFchk s).actuator = s.actuator := by rw [synFchk_eq]; rfl
@[simp] theorem synFchk_display (s : State) : (synFchk s).display = s.display := by rw [synFchk_eq]; rfl
@[simp] theorem synFchk_out (s : State) : (synFchk s).out = s.out := by rw [synFchk_eq]; rfl
@[simp] theorem synFchk_slots (s : State) : (synFchk s).slots = s.slots := by rw [synFchk_eq]; rfl
@[simp] theorem synFchk_landings (s : State) : (synFchk s).landings = s.landings := by rw [synFchk_eq]; rfl

/-! ### synIssue -/

@[simp] theorem synIssue_cfg (s : State) : (synIssue s).cfg = s.cfg := by
  rcases synIssue_cases s with h | h <;> simp [h]
@[simp] theorem synIssue_shared (s : State) : (synIssue s).shared = s.shared := by
  rcases synIssue_cases s with h | h <;> simp [h]
@[simp] theorem synIssue_ui (s : State) : (synIssue s).ui = s.ui := by
  rcases synIssue_cases s with h | h <;> simp [h]
@[simp] theorem synIssue_input (s : State) : (synIssue s).input = s.input := by
  rcases synIssue_cases s with h | h <;> simp [h]
@[simp] theorem synIssue_alarm (s : State) : (synIssue s).alarm = s.alarm := by
  rcases synIssue_cases s with h | h <;> simp [h]
@[simp] theorem synIssue_tickCount (s : State) : (synIssue s).tickCount = s.tickCount := by
  rcases synIssue_cases s with h | h <;> simp [h]
@[simp] theorem synIssue_tl (s : State) : (synIssue s).tl = s.tl := by
  rcases synIssue_cases s with h | h <;> simp [h]
@[simp] theorem synIssue_ul (s : State) : (synIssue s).ul = s.ul := by
  rcases synIssue_cases s with h | h <;> simp [h]
@[simp] theorem synIssue_display (s : State) : (synIssue s).display = s.display := by
  rcases synIssue_cases s with h | h <;> simp [h]
@[simp] theorem synIssue_slots (s : State) : (synIssue s).slots = s.slots := by
  rcases synIssue_cases s with h | h <;> simp [h]
@[simp] theorem synIssue_landings (s : State) : (synIssue s).landings = s.landings := by
  rcases synIssue_cases s with h | h <;> simp [h]

/-! ### synHalt -/

@[simp] theorem synHalt_cfg (s : State) : (synHalt s).cfg = s.cfg := by
  rcases synHalt_cases s with h | h <;> simp [h]
@[simp] theorem synHalt_shared (s : State) : (synHalt s).shared = s.shared := by
  rcases synHalt_cases s with h | h <;> simp [h]
@[simp] theorem synHalt_ui (s : State) : (synHalt s).ui = s.ui := by
  rcases synHalt_cases s with h | h <;> simp [h]
@[simp] theorem synHalt_input (s : State) : (synHalt s).input = s.input := by
  rcases synHalt_cases s with h | h <;> simp [h]
@[simp] theorem synHalt_alarm (s : State) : (synHalt s).alarm = s.alarm := by
  rcases synHalt_cases s with h | h <;> simp [h]
@[simp] theorem synHalt_tickCount (s : State) : (synHalt s).tickCount = s.tickCount := by
  rcases synHalt_cases s with h | h <;> simp [h]
@[simp] theorem synHalt_tl (s : State) : (synHalt s).tl = s.tl := by
  rcases synHalt_cases s with h | h <;> simp [h]
@[simp] theorem synHalt_ul (s : State) : (synHalt s).ul = s.ul := by
  rcases synHalt_cases s with h | h <;> simp [h]
@[simp] theorem synHalt_levels (s : State) : (synHalt s).levels = s.levels := by
  rcases synHalt_cases s with h | h <;> simp [h]
@[simp] theorem synHalt_display (s : State) : (synHalt s).display = s.display := by
  rcases synHalt_cases s with h | h <;> simp [h]
@[simp] theorem synHalt_slots (s : State) : (synHalt s).slots = s.slots := by
  rcases synHalt_cases s with h | h <;> simp [h]
@[simp] theorem synHalt_landings (s : State) : (synHalt s).landings = s.landings := by
  rcases synHalt_cases s with h | h <;> simp [h]

/-! ### The parts of a group that a phase leaves -/

@[simp] theorem synFchk_ratio (s : State) : (synFchk s).shared.ratio = s.shared.ratio := by rw [synFchk_eq]; rfl

@[simp] theorem synFchk_reverse (s : State) : (synFchk s).shared.reverse = s.shared.reverse := by rw [synFchk_eq]; rfl

@[simp] theorem caSample_rot (b : Bool) (s : State) : (caSample b s).input.rot = s.input.rot := aggregate_rot _ _ _

@[simp] theorem synIssue_spindlePos (s : State) : (synIssue s).sync.spindlePos = s.sync.spindlePos := by
  rcases synIssue_cases s with h | h <;> simp [h]

@[simp] theorem synIssue_lastRaw (s : State) : (synIssue s).sync.lastRaw = s.sync.lastRaw := by
  rcases synIssue_cases s with h | h <;> simp [h]

@[simp] theorem synIssue_lastDelta (s : State) : (synIssue s).sync.lastDelta = s.sync.lastDelta := by
  rcases synIssue_cases s with h | h <;> simp [h]

@[simp] theorem synIssue_cachedRatio (s : State) : (synIssue s).sync.cachedRatio = s.sync.cachedRatio := by
  rcases synIssue_cases s with h | h <;> simp [h]

@[simp] theorem synIssue_cachedReverse (s : State) : (synIssue s).sync.cachedReverse = s.sync.cachedReverse := by
  rcases synIssue_cases s with h | h <;> simp [h]

@[simp] theorem synIssue_cacheValid (s : State) : (synIssue s).sync.cacheValid = s.sync.cacheValid := by
  rcases synIssue_cases s with h | h <;> simp [h]

@[simp] theorem synHalt_spindlePos (s : State) : (synHalt s).sync.spindlePos = s.sync.spindlePos := by
  rcases synHalt_cases s with h | h <;> simp [h, haltMotion_eq]

@[simp] theorem synHalt_servoPos (s : State) : (synHalt s).sync.servoPos = s.sync.servoPos := by
  rcases synHalt_cases s with h | h <;> simp [h, haltMotion_eq]

@[simp] theorem synHalt_lastRaw (s : State) : (synHalt s).sync.lastRaw = s.sync.lastRaw := by
  rcases synHalt_cases s with h | h <;> simp [h, haltMotion_eq]

@[simp] theorem synHalt_lastDelta (s : State) : (synHalt s).sync.lastDelta = s.sync.lastDelta := by
  rcases synHalt_cases s with h | h <;> simp [h, haltMotion_eq]

@[simp] theorem synHalt_cachedRatio (s : State) : (synHalt s).sync.cachedRatio = s.sync.cachedRatio := by
  rcases synHalt_cases s with h | h <;> simp [h, haltMotion_eq]

@[simp] theorem synHalt_cachedReverse (s : State) : (synHalt s).sync.cachedReverse = s.sync.cachedReverse := by
  rcases synHalt_cases s with h | h <;> simp [h, haltMotion_eq]

@[simp] theorem synRebase_lastRaw (s : State) : (synRebase s).sync.lastRaw = s.sync.lastRaw := by
  rcases synRebase_cases s with h | h <;> simp [h]

@[simp] theorem synRebase_lastDelta (s : State) : (synRebase s).sync.lastDelta = s.sync.lastDelta := by
  rcases synRebase_cases s with h | h <;> simp [h]

@[simp] theorem synAccum_servoPos (s : State) : (synAccum s).sync.servoPos = s.sync.servoPos := by
  rcases synAccum_cases s with h | h <;> simp [h]

@[simp] theorem synAccum_cachedRatio (s : State) : (synAccum s).sync.cachedRatio = s.sync.cachedRatio := by
  rcases synAccum_cases s with h | h <;> simp [h]

@[simp] theorem synAccum_cachedReverse (s : State) : (synAccum s).sync.cachedReverse = s.sync.cachedReverse := by
  rcases synAccum_cases s with h | h <;> simp [h]

@[simp] theorem synAccum_cacheValid (s : State) : (synAccum s).sync.cacheValid = s.sync.cacheValid := by
  rcases synAccum_cases s with h | h <;> simp [h]

/-! ### A whole `TICK`, and what lands at a boundary -/

@[simp] theorem tick_cfg (s : State) : (tick s).cfg = s.cfg := by simp [tick]
@[simp] theorem tick_ui (s : State) : (tick s).ui = s.ui := by simp [tick]
@[simp] theorem tick_ul (s : State) : (tick s).ul = s.ul := by simp [tick]
@[simp] theorem tick_display (s : State) : (tick s).display = s.display := by simp [tick]
@[simp] theorem tick_slots (s : State) : (tick s).slots = s.slots := by simp [tick]
@[simp] theorem tick_landings (s : State) : (tick s).landings = s.landings := by simp [tick]

@[simp] theorem tick_ratio (s : State) : (tick s).shared.ratio = s.shared.ratio := by simp [tick]
@[simp] theorem tick_reverse (s : State) : (tick s).shared.reverse = s.shared.reverse := by simp [tick]
@[simp] theorem tick_rot (s : State) : (tick s).input.rot = s.input.rot := by simp [tick, tickPrologue]

@[simp] theorem land_cfg (x : Interrupt) (s : State) : (land x s).cfg = s.cfg := by
  cases x <;> simp [land, present]

@[simp] theorem land_ui (x : Interrupt) (s : State) : (land x s).ui = s.ui := by
  cases x <;> simp [land, present]

@[simp] theorem land_ul (x : Interrupt) (s : State) : (land x s).ul = s.ul := by
  cases x <;> simp [land, present]

@[simp] theorem land_display (x : Interrupt) (s : State) : (land x s).display = s.display := by
  cases x <;> simp [land, present]

@[simp] theorem land_slots (x : Interrupt) (s : State) : (land x s).slots = s.slots := by
  cases x <;> simp [land, present]

@[simp] theorem land_landings (x : Interrupt) (s : State) : (land x s).landings = s.landings := by
  cases x <;> simp [land, present]

@[simp] theorem land_ratio (x : Interrupt) (s : State) : (land x s).shared.ratio = s.shared.ratio := by
  cases x <;> simp [land, present]

@[simp] theorem land_reverse (x : Interrupt) (s : State) : (land x s).shared.reverse = s.shared.reverse := by
  cases x <;> simp [land, present]

@[simp] theorem boundary_cfg (s : State) : (boundary s).cfg = s.cfg :=
  boundary_induction (fun t => t.cfg = s.cfg) (fun x t h => (land_cfg x t).trans h) (fun _ _ h => h) s rfl

@[simp] theorem boundary_ui (s : State) : (boundary s).ui = s.ui :=
  boundary_induction (fun t => t.ui = s.ui) (fun x t h => (land_ui x t).trans h) (fun _ _ h => h) s rfl

@[simp] theorem boundary_ul (s : State) : (boundary s).ul = s.ul :=
  boundary_induction (fun t => t.ul = s.ul) (fun x t h => (land_ul x t).trans h) (fun _ _ h => h) s rfl

@[simp] theorem boundary_display (s : State) : (boundary s).display = s.display :=
  boundary_induction (fun t => t.display = s.display) (fun x t h => (land_display x t).trans h) (fun _ _ h => h) s rfl

@[simp] theorem boundary_slots (s : State) : (boundary s).slots = s.slots :=
  boundary_induction (fun t => t.slots = s.slots) (fun x t h => (land_slots x t).trans h) (fun _ _ h => h) s rfl

@[simp] theorem boundary_ratio (s : State) : (boundary s).shared.ratio = s.shared.ratio :=
  boundary_induction (fun t => t.shared.ratio = s.shared.ratio) (fun x t h => (land_ratio x t).trans h) (fun _ _ h => h) s rfl

@[simp] theorem boundary_reverse (s : State) : (boundary s).shared.reverse = s.shared.reverse :=
  boundary_induction (fun t => t.shared.reverse = s.shared.reverse) (fun x t h => (land_reverse x t).trans h) (fun _ _ h => h) s rfl

/-- A latched fault stays latched across a `TICK` (R47). -/
theorem tick_latched (s : State) (h : s.shared.fault ≠ .none) : (tick s).shared.fault ≠ .none := by
  simp only [tick, synHalt_shared, synIssue_shared, synFchk_eq, State.setShared_shared]
  split
  · simp
  · split
    · simp
    · simpa using h

/-- A latched fault stays latched across a boundary. -/
theorem boundary_latched (s : State) (h : s.shared.fault ≠ .none) : (boundary s).shared.fault ≠ .none := by
  refine boundary_induction (fun t => t.shared.fault ≠ .none) (fun x t ht => ?_) (fun _ _ ht => ht) s h
  cases x with
  | tick l => exact tick_latched (present l t) ht
  | knob d => exact ht

end Sys2Proof.Machine
end

