-- ==== Sys2Proof/Laws/PerInstr.lean ====
section
/-! SUPPORT. The family of statements made per instruction: every word fits its format (Table E0). -/

namespace Sys2Proof

/-- The number of a word made of two fields. -/
theorem toNat_append_add {m n : Nat} (x : BitVec m) (y : BitVec n) : (x ++ y).toNat = x.toNat * 2 ^ n + y.toNat := by
  rw [BitVec.toNat_append, ← Nat.shiftLeft_add_eq_or_of_lt y.isLt, Nat.shiftLeft_eq]

theorem encode_actStep_toNat (n : Byte) : (encode (.actStep n)).toNat = 768 + n.toNat := by
  rw [encode, toNat_append_add]; rfl

theorem encode_dspWrite_toNat (r : BitVec 3) (v : Byte) :
    (encode (.dspWrite r v)).toNat = r.toNat * 256 + v.toNat := by
  rw [encode, toNat_append_add, toNat_append_add]; simp

theorem encode_rotSet_toNat (v : Word16) : (encode (.rotSet v)).toNat = 65536 + v.toNat := by
  rw [encode, toNat_append_add]; rfl

theorem encode_rotMove_toNat (d : Word16) : (encode (.rotMove d)).toNat = d.toNat := by
  rw [encode, toNat_append_add]; simp

/-- The word of the instruction has no bit at or above the width of its port's format. -/
def Laws.WordFits.Statement (i : Instr) : Prop := (encode i).toNat < 2 ^ i.port.width

theorem Laws.WordFits.reset : Laws.WordFits.Statement .reset := by
  unfold Laws.WordFits.Statement; decide

theorem Laws.WordFits.noevent : Laws.WordFits.Statement .noevent := by
  unfold Laws.WordFits.Statement; decide

theorem Laws.WordFits.uicyc : Laws.WordFits.Statement .uicyc := by
  unfold Laws.WordFits.Statement; decide

theorem Laws.WordFits.tick : Laws.WordFits.Statement .tick := by
  unfold Laws.WordFits.Statement; decide

theorem Laws.WordFits.tickUicyc : Laws.WordFits.Statement .tickUicyc := by
  unfold Laws.WordFits.Statement; decide

theorem Laws.WordFits.synSample : Laws.WordFits.Statement .synSample := by
  unfold Laws.WordFits.Statement; decide

theorem Laws.WordFits.synDelta : Laws.WordFits.Statement .synDelta := by
  unfold Laws.WordFits.Statement; decide

theorem Laws.WordFits.synFilter : Laws.WordFits.Statement .synFilter := by
  unfold Laws.WordFits.Statement; decide

theorem Laws.WordFits.synAccum : Laws.WordFits.Statement .synAccum := by
  unfold Laws.WordFits.Statement; decide

theorem Laws.WordFits.synRebase : Laws.WordFits.Statement .synRebase := by
  unfold Laws.WordFits.Statement; decide

theorem Laws.WordFits.synTarget : Laws.WordFits.Statement .synTarget := by
  unfold Laws.WordFits.Statement; decide

theorem Laws.WordFits.synSteps : Laws.WordFits.Statement .synSteps := by
  unfold Laws.WordFits.Statement; decide

theorem Laws.WordFits.synFchk : Laws.WordFits.Statement .synFchk := by
  unfold Laws.WordFits.Statement; decide

theorem Laws.WordFits.synIssue : Laws.WordFits.Statement .synIssue := by
  unfold Laws.WordFits.Statement; decide

theorem Laws.WordFits.synHalt : Laws.WordFits.Statement .synHalt := by
  unfold Laws.WordFits.Statement; decide

theorem Laws.WordFits.uiSample : Laws.WordFits.Statement .uiSample := by
  unfold Laws.WordFits.Statement; decide

theorem Laws.WordFits.uiActivity : Laws.WordFits.Statement .uiActivity := by
  unfold Laws.WordFits.Statement; decide

theorem Laws.WordFits.uiDecode : Laws.WordFits.Statement .uiDecode := by
  unfold Laws.WordFits.Statement; decide

theorem Laws.WordFits.uiPend : Laws.WordFits.Statement .uiPend := by
  unfold Laws.WordFits.Statement; decide

theorem Laws.WordFits.uiTrans : Laws.WordFits.Statement .uiTrans := by
  unfold Laws.WordFits.Statement; decide

theorem Laws.WordFits.uiRender : Laws.WordFits.Statement .uiRender := by
  unfold Laws.WordFits.Statement; decide

theorem Laws.WordFits.uiOutput : Laws.WordFits.Statement .uiOutput := by
  unfold Laws.WordFits.Statement; decide

theorem Laws.WordFits.uiFaultEnterI : Laws.WordFits.Statement .uiFaultEnterI := by
  unfold Laws.WordFits.Statement; decide

theorem Laws.WordFits.uiFaultEnterU : Laws.WordFits.Statement .uiFaultEnterU := by
  unfold Laws.WordFits.Statement; decide

theorem Laws.WordFits.uiFaultEnterV : Laws.WordFits.Statement .uiFaultEnterV := by
  unfold Laws.WordFits.Statement; decide

theorem Laws.WordFits.uiFaultClear : Laws.WordFits.Statement .uiFaultClear := by
  unfold Laws.WordFits.Statement; decide

theorem Laws.WordFits.uiFaultHold : Laws.WordFits.Statement .uiFaultHold := by
  unfold Laws.WordFits.Statement; decide

theorem Laws.WordFits.uiNopF : Laws.WordFits.Statement .uiNopF := by
  unfold Laws.WordFits.Statement; decide

theorem Laws.WordFits.uiEditValue : Laws.WordFits.Statement .uiEditValue := by
  unfold Laws.WordFits.Statement; decide

theorem Laws.WordFits.uiEditUnits : Laws.WordFits.Statement .uiEditUnits := by
  unfold Laws.WordFits.Statement; decide

theorem Laws.WordFits.uiNopI : Laws.WordFits.Statement .uiNopI := by
  unfold Laws.WordFits.Statement; decide

theorem Laws.WordFits.uiCommitUnits : Laws.WordFits.Statement .uiCommitUnits := by
  unfold Laws.WordFits.Statement; decide

theorem Laws.WordFits.uiTimeoutU : Laws.WordFits.Statement .uiTimeoutU := by
  unfold Laws.WordFits.Statement; decide

theorem Laws.WordFits.uiNopU : Laws.WordFits.Statement .uiNopU := by
  unfold Laws.WordFits.Statement; decide

theorem Laws.WordFits.uiCommitValue : Laws.WordFits.Statement .uiCommitValue := by
  unfold Laws.WordFits.Statement; decide

theorem Laws.WordFits.uiTimeoutV : Laws.WordFits.Statement .uiTimeoutV := by
  unfold Laws.WordFits.Statement; decide

theorem Laws.WordFits.uiNopV : Laws.WordFits.Statement .uiNopV := by
  unfold Laws.WordFits.Statement; decide

theorem Laws.WordFits.actNone : Laws.WordFits.Statement .actNone := by
  unfold Laws.WordFits.Statement; decide

theorem Laws.WordFits.actStop : Laws.WordFits.Statement .actStop := by
  unfold Laws.WordFits.Statement; decide

theorem Laws.WordFits.actDir (d : Bool) : Laws.WordFits.Statement (.actDir d) := by
  unfold Laws.WordFits.Statement; cases d <;> decide

theorem Laws.WordFits.actStep (n : Byte) : Laws.WordFits.Statement (.actStep n) := by
  simp only [Laws.WordFits.Statement, encode_actStep_toNat, Instr.port, Port.width]
  omega

theorem Laws.WordFits.dspWrite (r : BitVec 3) (v : Byte) : Laws.WordFits.Statement (.dspWrite r v) := by
  simp only [Laws.WordFits.Statement, encode_dspWrite_toNat, Instr.port, Port.width]
  omega

theorem Laws.WordFits.rotGet : Laws.WordFits.Statement .rotGet := by
  unfold Laws.WordFits.Statement; decide

theorem Laws.WordFits.rotSet (v : Word16) : Laws.WordFits.Statement (.rotSet v) := by
  simp only [Laws.WordFits.Statement, encode_rotSet_toNat, Instr.port, Port.width]
  omega

theorem Laws.WordFits.rotMove (d : Word16) : Laws.WordFits.Statement (.rotMove d) := by
  simp only [Laws.WordFits.Statement, encode_rotMove_toNat, Instr.port, Port.width]
  omega

theorem Laws.WordFits.caSample (b : Bool) : Laws.WordFits.Statement (.caSample b) := by
  unfold Laws.WordFits.Statement; cases b <;> decide

theorem Laws.WordFits.caRead : Laws.WordFits.Statement .caRead := by
  unfold Laws.WordFits.Statement; decide

theorem Laws.WordFits.alSample (b : Bool) : Laws.WordFits.Statement (.alSample b) := by
  unfold Laws.WordFits.Statement; cases b <;> decide

end Sys2Proof
end

