-- ==== Sys2Proof/Laws/UiPhases.lean ====
section
/-! SUPPORT. What the phases of a `UICYC` can do and what they leave, whatever lands inside them: the parameters, what the
environment still presents, the selection and the controller's state outside `UI.TRANS`, and the latch. -/

namespace Sys2Proof.Machine

/-! ### UI.SAMPLE -/

@[simp] theorem uiSample_cfg (s : State) : (uiSample s).cfg = s.cfg := by simp [uiSample, sampleFault, sampleTime]

@[simp] theorem uiSample_ui (s : State) : (uiSample s).ui = s.ui := by simp [uiSample, sampleFault, sampleTime]

@[simp] theorem uiSample_slots (s : State) : (uiSample s).slots = s.slots := by
  simp [uiSample, sampleFault, sampleTime]

@[simp] theorem uiSample_display (s : State) : (uiSample s).display = s.display := by
  simp [uiSample, sampleFault, sampleTime]

/-- The click count of a cycle is the one at its start: the read is the first step. -/
@[simp] theorem uiSample_c (s : State) : (uiSample s).ul.c = s.input.clicksOut := by
  simp [uiSample, sampleFault, sampleTime, rotGet, caRead]

theorem uiSample_latched (s : State) (h : s.shared.fault ≠ .none) : (uiSample s).shared.fault ≠ .none := by
  simp only [uiSample, sampleFault, sampleTime, State.setUl_shared]
  refine boundary_latched _ ?_
  rw [State.setUl_shared]
  refine boundary_latched _ ?_
  rw [rotGet_shared]
  exact boundary_latched _ h

/-- With nothing ahead nothing is ahead after it either. -/
theorem uiSample_landings_of_nil (s : State) (h : s.landings = []) : (uiSample s).landings = [] := by
  have h1 : (caRead s).landings = [] := h
  have h2 : (rotGet (caRead s)).landings = [] := h
  have h3 : (sampleTime (rotGet (caRead s))).landings = [] := h
  unfold uiSample
  simp only
  rw [boundary_of_nil _ h1, boundary_of_nil _ h2, boundary_of_nil _ h3]
  exact h

/-! ### UI.ACTIVITY -/

theorem uiActivity_cases (s : State) :
    ((s.ul.c ≠ 0#8 ∨ s.ul.r ≠ s.ui.lastRot) ∧
      uiActivity s = s.setUi { s.ui with lastActivity := s.ul.t, lastRot := s.ul.r }) ∨
    ((s.ul.c = 0#8 ∧ s.ul.r = s.ui.lastRot) ∧ uiActivity s = s) := by
  by_cases h : activity s.ul.c s.ul.r s.ui.lastRot = true
  · exact .inl ⟨(activity_iff _ _ _).1 h, by simp [uiActivity, h]⟩
  · rw [activity_iff, not_or, not_not, not_not] at h
    refine .inr ⟨h, ?_⟩
    simp [uiActivity, activity, h]
    rfl

/-- `UI.ACTIVITY` writes its two registers alone. -/
theorem uiActivity_eq (s : State) :
    uiActivity s = s.setUi { s.ui with lastActivity := (uiActivity s).ui.lastActivity, lastRot := s.ul.r } := by
  rcases uiActivity_cases s with h | ⟨h, h'⟩
  · rw [h.2]; rfl
  · rw [h', h.2]; rfl

@[simp] theorem uiActivity_cfg (s : State) : (uiActivity s).cfg = s.cfg := by rw [uiActivity_eq]; rfl

@[simp] theorem uiActivity_sync (s : State) : (uiActivity s).sync = s.sync := by rw [uiActivity_eq]; rfl

@[simp] theorem uiActivity_shared (s : State) : (uiActivity s).shared = s.shared := by rw [uiActivity_eq]; rfl

@[simp] theorem uiActivity_input (s : State) : (uiActivity s).input = s.input := by rw [uiActivity_eq]; rfl

@[simp] theorem uiActivity_alarm (s : State) : (uiActivity s).alarm = s.alarm := by rw [uiActivity_eq]; rfl

@[simp] theorem uiActivity_ul (s : State) : (uiActivity s).ul = s.ul := by rw [uiActivity_eq]; rfl

@[simp] theorem uiActivity_slots (s : State) : (uiActivity s).slots = s.slots := by rw [uiActivity_eq]; rfl

@[simp] theorem uiActivity_landings (s : State) : (uiActivity s).landings = s.landings := by rw [uiActivity_eq]; rfl

@[simp] theorem uiActivity_state (s : State) : (uiActivity s).ui.state = s.ui.state := by rw [uiActivity_eq]; rfl

@[simp] theorem uiActivity_active (s : State) : (uiActivity s).ui.active = s.ui.active := by rw [uiActivity_eq]; rfl

@[simp] theorem uiActivity_pending (s : State) : (uiActivity s).ui.pending = s.ui.pending := by
  rw [uiActivity_eq]; rfl

/-! ### UI.DECODE -/

/-- The row of Table E4 that the cycle's word selects is the one Table T gives (R96, R187). -/
theorem uitSelect_eq_tableT (quad : Nat) (f : Bool) (st : UiState) (c : Byte) (tmo : Bool) :
    uitSelect (uitWord f st (clickClass quad c) tmo) = tableT quad st f c.toNat tmo := by
  have key : ∀ b4 b2 b1 : Bool, (b4 = true → b1 = true) → (b2 = true → b1 = true) →
      uitSelect (uitWord f st (BitVec.ofBool b4 ++ BitVec.ofBool b2 ++ BitVec.ofBool b1) tmo) =
        match st, f with
        | .idle, true => .faultEnterI
        | .changeUnits, true => .faultEnterU
        | .changeValue, true => .faultEnterV
        | .idle, false => if b2 then .editUnits else if b1 then .editValue else .nopI
        | .changeUnits, false => if b1 then .commitUnits else if tmo then .timeoutU else .nopU
        | .changeValue, false => if b1 then .commitValue else if tmo then .timeoutV else .nopV
        | .fault, _ => if b4 then .faultClear else if b1 then .faultHold else .nopF := by
    cases st <;> cases f <;> cases tmo <;> decide
  rw [clickClass, key _ _ _ (by simp; omega) (by simp; omega)]
  cases st <;> cases f <;> simp only [tableT, decide_eq_true_eq]
  repeat' split
  all_goals first | rfl | omega

@[simp] theorem uiDecode_op (s : State) : (uiDecode s).ul.op =
    tableT s.cfg.quad s.ui.state (latched s.ul.fs) s.ul.c.toNat
      (timedOut s.cfg.editTimeout s.ul.t s.ui.lastActivity) :=
  uitSelect_eq_tableT _ _ _ _ _

/-! ### UI.PEND -/

/-- `UI.PEND` writes the pending selection, and the knob with `last_rot` and the command that moves it. -/
theorem uiPend_cases (s : State) : ∃ (x : Selection) (lr rot : Word16) (out : List Command), uiPend s = { s with
    ui := { s.ui with lastRot := lr, pending := x }, input := { s.input with rot := rot }, out := out } := by
  unfold uiPend
  split
  · exact ⟨_, _, _, _, rfl⟩
  · split
    · unfold pendUnits
      by_cases h : clampUnits s.cfg.unitsMin s.cfg.unitsMax s.ul.r = s.ul.r.toInt
      · simp only [h, if_true]
        exact ⟨_, _, _, _, rfl⟩
      · simp only [h, if_false]
        exact ⟨_, _, _, _, rfl⟩
    · unfold pendValue
      by_cases h : lastRow s.cfg s.ui.active.units < (rotDecode s.ul.r).1.toNat
      · simp only [h, if_true]
        exact ⟨_, _, _, _, rfl⟩
      · simp only [h, if_false]
        exact ⟨_, _, _, _, rfl⟩
    · exact ⟨_, _, _, _, rfl⟩
    · exact ⟨_, _, _, _, rfl⟩

theorem uiPend_eq (s : State) : uiPend s = { s with
    ui := { s.ui with lastRot := (uiPend s).ui.lastRot, pending := (uiPend s).ui.pending }
    input := { s.input with rot := (uiPend s).input.rot }, out := (uiPend s).out } := by
  obtain ⟨x, lr, rot, out, h⟩ := uiPend_cases s
  rw [h]

@[simp] theorem uiPend_cfg (s : State) : (uiPend s).cfg = s.cfg := by rw [uiPend_eq]

@[simp] theorem uiPend_sync (s : State) : (uiPend s).sync = s.sync := by rw [uiPend_eq]

@[simp] theorem uiPend_shared (s : State) : (uiPend s).shared = s.shared := by rw [uiPend_eq]

@[simp] theorem uiPend_alarm (s : State) : (uiPend s).alarm = s.alarm := by rw [uiPend_eq]

@[simp] theorem uiPend_ul (s : State) : (uiPend s).ul = s.ul := by rw [uiPend_eq]

@[simp] theorem uiPend_slots (s : State) : (uiPend s).slots = s.slots := by rw [uiPend_eq]

@[simp] theorem uiPend_landings (s : State) : (uiPend s).landings = s.landings := by rw [uiPend_eq]

@[simp] theorem uiPend_state (s : State) : (uiPend s).ui.state = s.ui.state := by rw [uiPend_eq]

@[simp] theorem uiPend_active (s : State) : (uiPend s).ui.active = s.ui.active := by rw [uiPend_eq]

@[simp] theorem uiPend_lastActivity (s : State) : (uiPend s).ui.lastActivity = s.ui.lastActivity := by rw [uiPend_eq]

/-- While a value is edited and no fault is entered, the staged value is in range of the active table (R32, R165). -/
theorem uiPend_inRange (s : State) (h : entersFault s.ul.op = false) (hs : s.ul.st = .changeValue) :
    (uiPend s).ui.pending.value.toNat ≤ lastRow s.cfg s.ui.active.units := by
  simp only [uiPend, h, hs, pendValue, Bool.false_eq_true, if_false]
  split
  · simp only [State.setUi_ui, BitVec.toNat_ofNat]
    exact Nat.mod_le _ _
  · simp only [State.setUi_ui]
    omega

/-! ### UI.TRANS -/

@[simp] theorem performOp_cfg (x : UiOp) (s : State) : (performOp x s).cfg = s.cfg := by cases x <;> rfl

@[simp] theorem performOp_sync (x : UiOp) (s : State) : (performOp x s).sync = s.sync := by cases x <;> rfl

@[simp] theorem performOp_alarm (x : UiOp) (s : State) : (performOp x s).alarm = s.alarm := by cases x <;> rfl

@[simp] theorem performOp_ul (x : UiOp) (s : State) : (performOp x s).ul = s.ul := by cases x <;> rfl

@[simp] theorem performOp_slots (x : UiOp) (s : State) : (performOp x s).slots = s.slots := by cases x <;> rfl

@[simp] theorem performOp_landings (x : UiOp) (s : State) : (performOp x s).landings = s.landings := by
  cases x <;> rfl

/-- Only the clear touches the latch (R166). -/
theorem performOp_shared (x : UiOp) (s : State) (h : x ≠ .faultClear) : (performOp x s).shared = s.shared := by
  cases x <;> first | rfl | exact absurd rfl h

/-- Only the two commits touch the active selection (R190). -/
theorem performOp_active (x : UiOp) (s : State) (h : x ≠ .commitUnits) (h' : x ≠ .commitValue) :
    (performOp x s).ui.active = s.ui.active := by
  cases x <;> first | rfl | exact absurd rfl h | exact absurd rfl h'

/-! ### UI.RENDER -/

@[simp] theorem uiRender_cfg (s : State) : (uiRender s).cfg = s.cfg := by simp [uiRender, showPicture]

@[simp] theorem uiRender_ui (s : State) : (uiRender s).ui = s.ui := by simp [uiRender, showPicture]

@[simp] theorem uiRender_ul (s : State) : (uiRender s).ul = s.ul := by simp [uiRender, showPicture]

@[simp] theorem uiRender_slots (s : State) : (uiRender s).slots = s.slots := by simp [uiRender, showPicture]

theorem boundary_sendDisplay (r : BitVec 3) (v : Byte) (s : State) (h : s.landings = []) :
    boundary (sendDisplay r v s) = sendDisplay r v s := boundary_of_nil _ h

/-- With nothing landing inside it `UI.RENDER` is its five writes (R185). -/
theorem uiRender_of_nil (s : State) (h : s.landings = []) : uiRender s =
    sendDisplay 4#3 (picture s).led (sendDisplay 0#3 (picture s).d0 (sendDisplay 1#3 (picture s).d1
      (sendDisplay 2#3 (picture s).d2 (sendDisplay 3#3 (picture s).d3 s)))) := by
  simp only [uiRender, showPicture, boundary_sendDisplay, sendDisplay_landings, h]

theorem uiRender_landings_of_nil (s : State) (h : s.landings = []) : (uiRender s).landings = [] := by
  simp only [uiRender_of_nil s h, sendDisplay_landings, h]

theorem uiRender_latched (s : State) (h : s.shared.fault ≠ .none) : (uiRender s).shared.fault ≠ .none := by
  simp only [uiRender, showPicture, sendDisplay_shared]
  refine boundary_latched _ ?_
  rw [sendDisplay_shared]
  refine boundary_latched _ ?_
  rw [sendDisplay_shared]
  refine boundary_latched _ ?_
  rw [sendDisplay_shared]
  exact boundary_latched _ h

/-! ### UI.OUTPUT -/

@[simp] theorem uiOutput_cfg (s : State) : (uiOutput s).cfg = s.cfg := by simp [uiOutput, outputReverse, outputRatio]

@[simp] theorem uiOutput_ui (s : State) : (uiOutput s).ui = s.ui := by simp [uiOutput, outputReverse, outputRatio]

@[simp] theorem uiOutput_ul (s : State) : (uiOutput s).ul = s.ul := by simp [uiOutput, outputReverse, outputRatio]

@[simp] theorem uiOutput_slots (s : State) : (uiOutput s).slots = s.slots := by
  simp [uiOutput, outputReverse, outputRatio]

@[simp] theorem uiOutput_ratio (s : State) : (uiOutput s).shared.ratio = (selectedRow s.cfg s.ui.active).ratio := by
  simp [uiOutput, outputReverse, outputRatio]

@[simp] theorem uiOutput_reverse (s : State) : (uiOutput s).shared.reverse = s.ui.active.reverse := by
  simp [uiOutput, outputReverse, outputRatio]

/-- With nothing landing inside it `UI.OUTPUT` is its two writes (R186). -/
theorem uiOutput_of_nil (s : State) (h : s.landings = []) : uiOutput s = outputReverse (outputRatio s) := by
  unfold uiOutput
  rw [boundary_of_nil _ (show (outputRatio s).landings = [] from h)]

theorem uiOutput_latched (s : State) (h : s.shared.fault ≠ .none) : (uiOutput s).shared.fault ≠ .none := by
  simp only [uiOutput, outputReverse, State.setShared_shared]
  exact boundary_latched _ h

end Sys2Proof.Machine
end

