-- ==== Sys2Proof/Tests/Slice0.lean ====
section
/-! SUPPORT. The model's own tests: an ill-formed term for each check, words written out from Tables E0 to E6, steps whose
results are the spec's own (95_test_vectors.md and 96_derived_vectors.md, named at each test), and a witness for each
obligation that has hypotheses. -/

namespace Sys2Proof.Tests

open Sys2Proof.Machine

/-! ### The fixture of 95_test_vectors.md section 0 -/

/-- Row `i` of table `u`, with its ratio. -/
def row (u i : Nat) (ratio : Word32) : FeedRow :=
  { digit1 := 0#8, digit10 := BitVec.ofNat 8 i, digit100 := BitVec.ofNat 8 u, ratio := ratio }

def fixtureTables : FeedTables where
  mmFeed := ⟨row 0 0 0x00002000#32, [row 0 1 0x00004000#32, row 0 2 0x00008000#32, row 0 3 0x0000C000#32,
    row 0 4 0x00010000#32, row 0 5 0x00018000#32, row 0 6 0x00020000#32, row 0 7 0x00030000#32]⟩
  mmThread := ⟨row 1 0 0x00001000#32, [row 1 1 0x00003000#32, row 1 2 0x00004000#32, row 1 3 0x00005000#32]⟩
  inchFeed := ⟨row 2 0 0x00000A3D#32, [row 2 1 0x0000147A#32, row 2 2 0x000028F5#32, row 2 3 0x000051EB#32,
    row 2 4 0x0000A3D7#32, row 2 5 0x0001470A#32]⟩
  inchThread := ⟨row 3 0 0x00010000#32, [row 3 1 0x00028000#32, row 3 2 0x00FF0000#32]⟩

def fixture : Params where
  tables := fixtureTables
  glyphs := { blank := 0x10#8, minus := 0x11#8, err := 0x12#8, digit0 := 0#8, digit1 := 1#8, digit2 := 2#8,
              digit3 := 3#8 }

/-- The fixture's machine after reset. -/
def s0 : State := State.initial fixture

/-- The state after an instruction, if it answers one. -/
def after (i : Instr) (s : State) : Option State :=
  match exec i s with
  | .next t => some t
  | .fault _ => none
  | .refused _ => none

/-- A machine in an edit or another state, on a selection, with that selection's pair committed. -/
def at_ (st : UiState) (x : Selection) : State :=
  { s0 with
    ui := { s0.ui with state := st, active := x, pending := x }
    shared := { s0.shared with ratio := (selectedRow fixture x).ratio, reverse := x.reverse } }

/-- A machine running at ratio 1.0 with its baseline taken (95_test_vectors.md 1.1, after the first tick). -/
def run1 : State :=
  { at_ .idle { units := 0#2, value := 4#15, reverse := false } with
    sync := { spindlePos := 0x80000000#32, servoPos := 0x80000000#32, lastRaw := 0#16, lastDelta := 0#16,
              cachedRatio := 0x10000#32, cachedReverse := false, cacheValid := true } }

/-- A machine with given levels at its inputs. -/
def withRaw (raw : Word16) (s : State) : State := { s with levels := { s.levels with raw := raw } }

/-- A machine with given click count, knob and time. -/
def withInputs (c : Byte) (r : Word16) (t : Word32) (s : State) : State :=
  { s with input := { s.input with clicksOut := c, rot := r }, tickCount := t }

/-- A machine with a latched fault. -/
def faulted (k : FaultKind) (s : State) : State := { s with shared := { s.shared with fault := k } }

/-! ### Well-formedness -/

theorem test_wf_step_count_zero : (Instr.actStep 0#8).wellFormed = false := by decide
theorem test_wf_step_count_one : (Instr.actStep 1#8).wellFormed = true := by decide
theorem test_wf_display_register_5 : (Instr.dspWrite 5#3 0#8).wellFormed = false := by decide
theorem test_wf_display_register_4 : (Instr.dspWrite 4#3 0#8).wellFormed = true := by decide

/-- A table of 32769 rows. -/
def hugeTable : FeedTable := ⟨row 0 0 0#32, List.replicate 32768 (row 0 0 0#32)⟩

theorem hugeTable_size : hugeTable.size = 32769 := congrArg (· + 1) List.length_replicate

theorem test_wf_mmFeed_too_long : ({ fixtureTables with mmFeed := hugeTable } : FeedTables).wellFormed = false := by
  simp only [FeedTables.wellFormed, hugeTable_size]; rfl
theorem test_wf_mmThread_too_long : ({ fixtureTables with mmThread := hugeTable } : FeedTables).wellFormed = false := by
  simp only [FeedTables.wellFormed, hugeTable_size]; rfl
theorem test_wf_inchFeed_too_long : ({ fixtureTables with inchFeed := hugeTable } : FeedTables).wellFormed = false := by
  simp only [FeedTables.wellFormed, hugeTable_size]; rfl
theorem test_wf_inchThread_too_long :
    ({ fixtureTables with inchThread := hugeTable } : FeedTables).wellFormed = false := by
  simp only [FeedTables.wellFormed, hugeTable_size]; rfl
theorem test_wf_lowWater_too_low : ({ fixture with lowWater := 0x7FFF#32 } : Params).wellFormed = false := by decide
theorem test_wf_lowWater_not_below_bias :
    ({ fixture with lowWater := 0x80000000#32 } : Params).wellFormed = false := by decide
theorem test_wf_debounce_zero : ({ fixture with debounceTicks := 0 } : Params).wellFormed = false := by decide
theorem test_wf_debounce_too_long : ({ fixture with debounceTicks := 64 } : Params).wellFormed = false := by decide
theorem test_wf_agg_zero : ({ fixture with aggTicks := 0 } : Params).wellFormed = false := by decide
theorem test_wf_agg_too_long : ({ fixture with aggTicks := 256 } : Params).wellFormed = false := by decide
theorem test_wf_alarm_zero : ({ fixture with alarmStable := 0 } : Params).wellFormed = false := by decide
theorem test_wf_alarm_too_long : ({ fixture with alarmStable := 16 } : Params).wellFormed = false := by decide
theorem test_wf_bias : ({ fixture with bias := 0x80000001#32 } : Params).wellFormed = false := by decide
theorem test_wf_jitterThresh : ({ fixture with jitterThresh := 11 } : Params).wellFormed = false := by decide
theorem test_wf_maxSteps : ({ fixture with maxSteps := 256 } : Params).wellFormed = false := by decide
theorem test_wf_unitsMin : ({ fixture with unitsMin := 1 } : Params).wellFormed = false := by decide
theorem test_wf_unitsMax : ({ fixture with unitsMax := 4 } : Params).wellFormed = false := by decide
theorem test_wf_editTimeout : ({ fixture with editTimeout := 4999 } : Params).wellFormed = false := by decide
theorem test_wf_quad : ({ fixture with quad := 4 } : Params).wellFormed = false := by decide
theorem test_wf_flashBit : ({ fixture with flashBit := 8 } : Params).wellFormed = false := by decide
theorem test_wf_widths : ({ fixture with widths := { enc := 32 } } : Params).wellFormed = false := by decide
theorem test_wf_fixture : fixture.wellFormed = true := by decide

/-! ### Words written out from the tables -/

/-- Table E1, all eight event vectors. -/
theorem test_decode_ev :
    decode .ev 0b000#24 = .ok .noevent ∧ decode .ev 0b001#24 = .ok .uicyc ∧ decode .ev 0b010#24 = .ok .tick ∧
    decode .ev 0b011#24 = .ok .tickUicyc ∧ decode .ev 0b100#24 = .ok .reset ∧ decode .ev 0b101#24 = .ok .reset ∧
    decode .ev 0b110#24 = .ok .reset ∧ decode .ev 0b111#24 = .ok .reset := by decide

/-- Table E2. -/
theorem test_decode_tickSeq :
    decode .tickSeq 0#24 = .ok .synSample ∧ decode .tickSeq 1#24 = .ok .synDelta ∧
    decode .tickSeq 2#24 = .ok .synFilter ∧ decode .tickSeq 3#24 = .ok .synAccum ∧
    decode .tickSeq 4#24 = .ok .synRebase ∧ decode .tickSeq 5#24 = .ok .synTarget ∧
    decode .tickSeq 6#24 = .ok .synSteps ∧ decode .tickSeq 7#24 = .ok .synFchk ∧
    decode .tickSeq 8#24 = .ok .synIssue ∧ decode .tickSeq 9#24 = .ok .synHalt ∧
    decode .tickSeq 10#24 = .error (.reserved .tickSeq) ∧ decode .tickSeq 16#24 = .error (.tooWide .tickSeq) := by decide

/-- Table E3. -/
theorem test_decode_uiSeq :
    decode .uiSeq 0#24 = .ok .uiSample ∧ decode .uiSeq 1#24 = .ok .uiActivity ∧ decode .uiSeq 2#24 = .ok .uiDecode ∧
    decode .uiSeq 3#24 = .ok .uiPend ∧ decode .uiSeq 4#24 = .ok .uiTrans ∧ decode .uiSeq 5#24 = .ok .uiRender ∧
    decode .uiSeq 6#24 = .ok .uiOutput ∧ decode .uiSeq 7#24 = .error (.reserved .uiSeq) := by decide

/-- Table E4: `{f, st, cc, to}` with some don't-care bits set, the words of 96_derived_vectors.md 3.2. -/
theorem test_decode_uit :
    decode .uit 0b1001110#24 = .ok .uiFaultEnterI ∧ decode .uit 0b1010000#24 = .ok .uiFaultEnterU ∧
    decode .uit 0b1100010#24 = .ok .uiFaultEnterV ∧ decode .uit 0b1111110#24 = .ok .uiFaultClear ∧
    decode .uit 0b1110110#24 = .ok .uiFaultHold ∧ decode .uit 0b1110000#24 = .ok .uiNopF ∧
    decode .uit 0b0000010#24 = .ok .uiEditValue ∧ decode .uit 0b0001110#24 = .ok .uiEditUnits ∧
    decode .uit 0b0000000#24 = .ok .uiNopI ∧ decode .uit 0b0010010#24 = .ok .uiCommitUnits ∧
    decode .uit 0b0010001#24 = .ok .uiTimeoutU ∧ decode .uit 0b0010000#24 = .ok .uiNopU ∧
    decode .uit 0b0100110#24 = .ok .uiCommitValue ∧ decode .uit 0b0100001#24 = .ok .uiTimeoutV ∧
    decode .uit 0b0100000#24 = .ok .uiNopV := by decide

/-- Every transition word hits exactly one row of Table E4 (R96). -/
theorem test_uit_rows_partition : ∀ w : BitVec 7, (uitRows.filter (fun r => r.hits w)).length = 1 := by decide

/-- Tables E5 and E6, the words of 95_test_vectors.md 2.3 and words the block never emits (R97, R98). -/
theorem test_decode_ports :
    decode .act 0x000#24 = .ok .actNone ∧ decode .act 0x100#24 = .ok .actStop ∧
    decode .act 0x200#24 = .ok (.actDir false) ∧ decode .act 0x201#24 = .ok (.actDir true) ∧
    decode .act 0x302#24 = .ok (.actStep 2#8) ∧ decode .act 0x380#24 = .ok (.actStep 128#8) ∧
    decode .act 0x300#24 = .error (.reserved .act) ∧ decode .act 0x202#24 = .error (.reserved .act) ∧
    decode .act 0x101#24 = .error (.reserved .act) ∧ decode .act 0x001#24 = .error (.reserved .act) ∧
    decode .dsp 0x311#24 = .ok (.dspWrite 3#3 0x11#8) ∧ decode .dsp 0x408#24 = .ok (.dspWrite 4#3 8#8) ∧
    decode .dsp 0x500#24 = .error (.reserved .dsp) ∧
    decode .rot 0x0FFFF#24 = .ok .rotGet ∧ decode .rot 0x10000#24 = .ok (.rotSet 0#16) ∧
    decode .rot 0x1FFFA#24 = .ok (.rotSet 0xFFFA#16) ∧ decode .rot 0x20000#24 = .error (.tooWide .rot) ∧
    decode .env 0xFFF9#24 = .ok (.rotMove 0xFFF9#16) ∧ decode .in1Button 1#24 = .ok (.caSample true) ∧
    decode .in1Alarm 1#24 = .ok (.alSample true) ∧ decode .in1Alarm 0#24 = .ok (.alSample false) ∧
    decode .stb 1#24 = .ok .caRead ∧ decode .stb 0#24 = .error (.reserved .stb) := by decide

/-- Table words that carry no format (notes/assumptions/3.md). -/
theorem test_decodeTableWord :
    decodeTableWord 8 4 = some .reset ∧ decodeTableWord 8 2 = some .tick ∧ decodeTableWord 8 9 = some .synHalt ∧
    decodeTableWord 8 0x40 = some .uiFaultEnterI ∧ decodeTableWord 8 0x20 = some .uiNopV ∧
    decodeTableWord 16 0x100 = some .actStop ∧ decodeTableWord 16 0x302 = some (.actStep 2#8) ∧
    decodeTableWord 24 0x10005 = some (.rotSet 5#16) ∧ decodeTableWord 24 0 = some .rotGet := by decide

/-- A fetched word runs as the next step, from the machine's reset state. -/
theorem test_withFetchWord_tick :
    step (State.reset.withFetchWord 8 2) = exec .tick { State.reset with out := [] } := rfl

theorem test_withFetchWord_step : step (s0.withFetchWord 16 0x302) = exec (.actStep 2#8) s0 := rfl

/-! ### Events -/

/-- 70_reset_and_hazards.md R290, with the fixture's `ratio_reset`: a latched fault, positions and an edit are gone. -/
theorem test_reset :
    (after .reset (faulted .servoAlarm { run1 with ui := { run1.ui with state := .fault } })).map
      (fun t => (t.sync.spindlePos, t.sync.servoPos, t.shared.ratio, t.shared.fault, t.ui.state)) =
      some (0x80000000#32, 0x10000000#32, 0x2000#32, FaultKind.none, UiState.idle) := by decide

theorem test_noevent : after .noevent (withRaw 7#16 run1) = some (withRaw 7#16 run1) := by decide

/-- 95_test_vectors.md 1.1, second tick. -/
theorem test_tick_steps : (after .tick (withRaw 7#16 run1)).map
    (fun t => (t.sync.spindlePos, t.sync.servoPos, t.out)) =
    some (0x80000007#32, 0x80000007#32, [Command.actDir false, .actStep 7#8]) := by decide

/-- 95_test_vectors.md 1.3: 256 owed steps stop and do not step. -/
theorem test_tick_step_cap : (after .tick (withRaw 256#16 run1)).map
    (fun t => (t.sync.servoPos, t.shared.fault, t.sync.cacheValid, t.out)) =
    some (0x80000000#32, FaultKind.tooManySteps, false, [Command.actStop]) := by decide

/-- 95_test_vectors.md 1.5, first cycle. -/
theorem test_uicyc_edit_units :
    (after .uicyc (withInputs 2#8 0x123#16 0#32 (at_ .idle { units := 0#2, value := 5#15, reverse := false }))).map
      (fun t => (t.ui.state, t.input.rot, t.input.clicksOut, t.out)) =
    some (UiState.changeUnits, 0#16, 0#8, [Command.rotSet 0#16, .dspWrite 3#3 0x10#8, .dspWrite 2#3 0#8,
      .dspWrite 1#3 5#8, .dspWrite 0#3 0#8, .dspWrite 4#3 1#8]) := by decide

/-- 20_memory.md R71: a `TICK` between the two writes of the output sees the new ratio and the old direction. -/
theorem test_uicyc_torn_pair :
    (after .uiOutput { at_ .idle { units := 0#2, value := 5#15, reverse := true } with
      shared := { ratio := 0x2000#32, reverse := false, fault := .none }, landings := [[.tick s0.levels]] }).map
      (fun t => (t.tl.rs, t.tl.rv, t.shared.ratio, t.shared.reverse)) =
    some (0x18000#32, false, 0x18000#32, true) := by decide

/-- 60_exceptions.md R260: the tick of `TICK_UICYC` raises, and its cycle already enters Fault. -/
theorem test_tickUicyc_order : (after .tickUicyc (withRaw 256#16 run1)).map (fun t => (t.ui.state, t.out.head?)) =
    some (UiState.fault, some Command.actStop) := by decide

/-! ### The phases of a `TICK` (40_synchronizer.md, the example of each rule; 96_derived_vectors.md 3.1) -/

theorem test_synSample : (after .synSample { s0 with shared := { ratio := 0x8000#32, reverse := true, fault := .none } }).map
    (fun t => (t.tl.rs, t.tl.rv)) = some (0x8000#32, true) := by decide

theorem test_synDelta :
    (after .synDelta { withRaw 3#16 s0 with sync := { s0.sync with lastRaw := 0xFFFE#16 } }).map (fun t => t.tl.delta) =
      some 5#16 ∧
    (after .synDelta { withRaw 0xFFFF#16 s0 with sync := { s0.sync with lastRaw := 2#16 } }).map
      (fun t => t.tl.delta.toInt) = some (-3) := by decide

/-- A tick whose delta is `d` after an accepted `l`. -/
def deltas (d l : Word16) : State :=
  { withRaw (0x64#16 + d) s0 with sync := { s0.sync with lastRaw := 0x64#16, lastDelta := l }, tl := { s0.tl with delta := d } }

theorem test_synFilter_small_reversals :
    ((after .synFilter (deltas (-3) 5)).map (fun t => t.tl.filt) = some true) ∧
    ((after .synFilter (deltas (-9) 1)).map (fun t => t.tl.filt) = some true) ∧
    ((after .synFilter (deltas 9 0x8000#16)).map (fun t => t.tl.filt) = some true) := by decide

theorem test_synFilter_accepts :
    ((after .synFilter (deltas (-10) 1)).map (fun t => t.tl.filt) = some false) ∧
    ((after .synFilter (deltas (-3) 0)).map (fun t => t.tl.filt) = some false) ∧
    ((after .synFilter (deltas 0 5)).map (fun t => t.tl.filt) = some false) ∧
    ((after .synFilter (deltas 0x8000#16 9)).map (fun t => t.tl.filt) = some false) := by decide

theorem test_synAccum : (after .synAccum (deltas (-10) 1)).map
    (fun t => (t.sync.spindlePos, t.sync.lastDelta, t.sync.lastRaw)) =
    some (0x7FFFFFF6#32, -10, 0x5A#16) := by decide

theorem test_synAccum_filtered : after .synAccum { deltas (-3) 5 with tl := { (deltas (-3) 5).tl with filt := true } } =
    some { deltas (-3) 5 with tl := { (deltas (-3) 5).tl with filt := true } } := by decide

theorem test_synRebase : (after .synRebase { s0 with tl := { s0.tl with rs := 0x18000#32, delta := 4#16 } }).map
    (fun t => (t.sync.spindlePos, t.sync.servoPos, t.sync.cachedRatio, t.sync.cacheValid)) =
    some (0x80000004#32, 0xC0000000#32, 0x18000#32, true) := by decide

/-- 95_test_vectors.md P5: at the low-water mark itself nothing triggers, one below it does. -/
def nearLowWater (pos : Word32) : State :=
  { run1 with sync := { run1.sync with spindlePos := pos }, tl := { run1.tl with rs := 0x10000#32, delta := -10 } }

theorem test_synRebase_low_water :
    (after .synRebase (nearLowWater 0x10000#32)).map (fun t => t.sync.spindlePos) = some 0x10000#32 ∧
    (after .synRebase (nearLowWater 0xFFF6#32)).map (fun t => t.sync.spindlePos) = some 0x7FFFFFF6#32 := by decide

theorem test_synTarget :
    (after .synTarget { s0 with sync := { s0.sync with spindlePos := 0x80000005#32 }
                                tl := { s0.tl with rs := 0x8000#32 } }).map (fun t => t.tl.target) =
      some 0x40000002#32 := by decide

/-- 95_test_vectors.md 2.1. -/
theorem test_fxmul : fxmul 0xFFFFFFFF#32 0xFFFFFFFF#32 = 0xFFFE0000#32 ∧ fxmul 0x80000001#32 0xFFFFFFFF#32 = 0x7FFF#32 ∧
    fxmul 0x80000000#32 0x20000#32 = 0#32 ∧ fxmul 0xFFFF#32 1#32 = 0#32 := by decide

/-- A tick with a target and a servo position. -/
def owing (target servo : Word32) : State :=
  { s0 with sync := { s0.sync with servoPos := servo }, tl := { s0.tl with target := target } }

theorem test_synSteps : (after .synSteps (owing 1#32 0xFFFFFFFE#32)).map (fun t => (t.tl.steps.toInt, t.tl.absSteps)) =
    some (3, 3#32) := by decide

theorem test_synSteps_extreme :
    (after .synSteps (owing 0x80000000#32 0#32)).map (fun t => (t.tl.steps.toInt, t.tl.absSteps)) =
    some (-2147483648, 0x80000000#32) := by decide

theorem test_synFchk_bound :
    (after .synFchk { s0 with tl := { s0.tl with absSteps := 255#32 } }).map (fun t => t.shared.fault) = some .none ∧
    (after .synFchk { s0 with tl := { s0.tl with absSteps := 256#32 } }).map (fun t => t.shared.fault) =
      some .tooManySteps := by decide

theorem test_synFchk_alarm_wins : (after .synFchk { s0 with tl := { s0.tl with absSteps := 300#32 },
                                                            alarm := { level := true, run := 0#4 } }).map
    (fun t => t.shared.fault) = some .servoAlarm := by decide

/-- R138: seven steps backwards with the direction reversed. -/
def sevenBack : State := { s0 with
  sync := { s0.sync with servoPos := 100#32 }, tl := { s0.tl with steps := -7, absSteps := 7#32, rv := true } }

theorem test_synIssue : (after .synIssue sevenBack).map (fun t => (t.out, t.sync.servoPos, t.actuator.pulses)) =
    some ([Command.actDir false, .actStep 7#8], 93#32, 7#8) := by decide

theorem test_synIssue_busy : after .synIssue { sevenBack with levels := { s0.levels with idle := false } } =
    some { sevenBack with levels := { s0.levels with idle := false } } := by decide

theorem test_synHalt : (after .synHalt (faulted .tooManySteps run1)).map (fun t => (t.out, t.sync.cacheValid)) =
    some ([Command.actStop], false) := by decide

theorem test_synHalt_no_fault : after .synHalt run1 = some run1 := by decide

/-! ### The phases of a `UICYC` (41_ui_controller.md, the example of each rule) -/

theorem test_uiSample : (after .uiSample (withInputs 2#8 0xFFFA#16 1000#32 s0)).map
    (fun t => (t.ul.c, t.ul.r, t.ul.t, t.ul.fs, t.input.clicksOut)) =
    some (2#8, 0xFFFA#16, 1000#32, FaultKind.none, 0#8) := by decide

theorem test_uiActivity : (after .uiActivity { s0 with
    ul := { s0.ul with r := 7#16, t := 1234#32 }, ui := { s0.ui with lastRot := 6#16 } }).map
    (fun t => (t.ui.lastActivity, t.ui.lastRot)) = some (1234#32, 7#16) := by decide

theorem test_uiActivity_none : (after .uiActivity { s0 with ul := { s0.ul with t := 1234#32 } }).map
    (fun t => t.ui.lastActivity) = some 0#32 := by decide

theorem test_uiDecode : (after .uiDecode { s0 with ul := { s0.ul with c := 2#8 } }).map (fun t => (t.ul.uit, t.ul.op)) =
    some (0x06#7, UiOp.editUnits) := by decide

/-- R162: 5000 ticks are no timeout, 5001 are, across the wrap of the counter. -/
def waiting (t : Word32) : State :=
  { at_ .changeValue fixture.defaults with
    ui := { (at_ .changeValue fixture.defaults).ui with lastActivity := 0xFFFFFF00#32 }, ul := { s0.ul with t := t } }

theorem test_uiDecode_timeout :
    (after .uiDecode (waiting 0x1288#32)).map (fun t => t.ul.op) = some .nopV ∧
    (after .uiDecode (waiting 0x1289#32)).map (fun t => t.ul.op) = some .timeoutV := by decide

/-- A cycle in an edit state that sampled the knob at `r`. -/
def knobAt (st : UiState) (r : Word16) : State :=
  { at_ st fixture.defaults with ul := { s0.ul with st := st, r := r, op := .nopV } }

/-- R165 and 95_test_vectors.md 1.8. -/
theorem test_uiPend_value :
    (after .uiPend (knobAt .changeValue 12#16)).map (fun t => (t.ui.pending.value, t.ui.pending.reverse, t.out)) =
      some (7#15, false, [Command.rotSet 7#16]) ∧
    (after .uiPend (knobAt .changeValue 0x8000#16)).map (fun t => (t.ui.pending.value, t.ui.pending.reverse, t.out)) =
      some (7#15, true, [Command.rotSet 0xFFF8#16]) ∧
    (after .uiPend (knobAt .changeValue 0xFFF8#16)).map (fun t => (t.ui.pending.value, t.ui.pending.reverse, t.out)) =
      some (7#15, true, []) := by decide

theorem test_uiPend_units :
    (after .uiPend (knobAt .changeUnits 6#16)).map (fun t => (t.ui.pending.units, t.out)) =
      some (3#2, [Command.rotSet 3#16]) ∧
    (after .uiPend (knobAt .changeUnits 0xFFFF#16)).map (fun t => (t.ui.pending.units, t.out)) =
      some (0#2, [Command.rotSet 0#16]) ∧
    (after .uiPend (knobAt .changeUnits 2#16)).map (fun t => (t.ui.pending.units, t.out)) = some (2#2, []) := by decide

theorem test_uiTrans : (after .uiTrans { at_ .changeValue fixture.defaults with
    ul := { s0.ul with op := .commitValue }
    ui := { (at_ .changeValue fixture.defaults).ui with pending := { units := 0#2, value := 7#15, reverse := true } } }).map
    (fun t => (t.ui.state, t.ui.active)) = some (UiState.idle, { units := 0#2, value := 7#15, reverse := true }) := by decide

/-- R181: a servo alarm in the lit half; R182 and R184 in the dark half. -/
theorem test_uiRender_fault : (after .uiRender { at_ .fault fixture.defaults with
    ul := { s0.ul with fs := .servoAlarm } }).map (fun t => t.display) =
    some { pos0 := 0x11#8, pos1 := 0x12#8, pos2 := 2#8, pos3 := 0x11#8, led := 1#8 } := by decide

theorem test_uiRender_dark : (after .uiRender { at_ .changeValue fixture.defaults with
    ul := { s0.ul with t := 128#32 } }).map (fun t => t.display) =
    some { pos0 := 0x10#8, pos1 := 0x10#8, pos2 := 0x10#8, pos3 := 0x10#8, led := 1#8 } := by decide

/-- R186: row 2 of table 1, reversed. -/
theorem test_uiOutput : (after .uiOutput (at_ .idle { units := 1#2, value := 2#15, reverse := true })).map
    (fun t => (t.shared.ratio, t.shared.reverse)) = some (0x4000#32, true) := by decide

/-! ### The transition operations (41_ui_controller.md section 4, the example of each rule) -/

theorem test_fault_enter :
    (after .uiFaultEnterI (at_ .idle fixture.defaults)) = some (at_ .idle fixture.defaults |> enterFault) ∧
    (after .uiFaultEnterU (at_ .changeUnits fixture.defaults)).map (fun t => t.ui.state) = some .fault ∧
    (after .uiFaultEnterV (at_ .changeValue fixture.defaults)).map (fun t => (t.ui.state, t.ui.active)) =
      some (UiState.fault, fixture.defaults) := by decide

theorem test_fault_clear : (after .uiFaultClear (faulted .servoAlarm (at_ .fault fixture.defaults))).map
    (fun t => (t.shared.fault, t.ui.state)) = some (FaultKind.none, UiState.idle) := by decide

theorem test_hold_and_nops :
    after .uiFaultHold (faulted .servoAlarm (at_ .fault fixture.defaults)) =
      some (faulted .servoAlarm (at_ .fault fixture.defaults)) ∧
    after .uiNopF run1 = some run1 ∧ after .uiNopI run1 = some run1 ∧ after .uiNopU run1 = some run1 ∧
    after .uiNopV run1 = some run1 := by decide

theorem test_edit_units : (after .uiEditUnits (at_ .idle { units := 2#2, value := 0#15, reverse := false })).map
    (fun t => (t.ui.state, t.input.rot, t.ui.pending.units, t.out)) =
    some (UiState.changeUnits, 2#16, 2#2, [Command.rotSet 2#16]) := by decide

theorem test_edit_value : (after .uiEditValue (at_ .idle { units := 0#2, value := 5#15, reverse := true })).map
    (fun t => (t.ui.state, t.input.rot, t.ui.pending.value, t.ui.pending.reverse, t.ui.lastRot)) =
    some (UiState.changeValue, 0xFFFA#16, 5#15, true, 0xFFFA#16) := by decide

/-- 95_test_vectors.md P3: a commit into table 1, which has four rows, seeds its last row. -/
theorem test_commit_units : (after .uiCommitUnits { at_ .changeUnits { units := 0#2, value := 5#15, reverse := false } with
    ui := { (at_ .changeUnits { units := 0#2, value := 5#15, reverse := false }).ui with
            pending := { units := 1#2, value := 5#15, reverse := false } } }).map
    (fun t => (t.ui.state, t.ui.active.units, t.ui.active.value, t.ui.pending.value, t.input.rot)) =
    some (UiState.changeValue, 1#2, 5#15, 3#15, 3#16) := by decide

theorem test_commit_value : (after .uiCommitValue { at_ .changeValue fixture.defaults with
    ui := { (at_ .changeValue fixture.defaults).ui with pending := { units := 3#2, value := 7#15, reverse := true } } }).map
    (fun t => (t.ui.state, t.ui.active)) = some (UiState.idle, { units := 0#2, value := 7#15, reverse := true }) := by decide

theorem test_timeouts :
    (after .uiTimeoutU (at_ .changeUnits fixture.defaults)).map (fun t => (t.ui.state, t.ui.active)) =
      some (UiState.idle, fixture.defaults) ∧
    (after .uiTimeoutV (at_ .changeValue fixture.defaults)).map (fun t => (t.ui.state, t.ui.active)) =
      some (UiState.idle, fixture.defaults) := by decide

/-! ### Output commands and input units (43_output_commands.md, 42_input_conditioning.md) -/

theorem test_actuator :
    after .actNone run1 = some run1 ∧
    (after .actStop { run1 with actuator := { direction := true, pulses := 9#8 } }).map
      (fun t => (t.actuator.pulses, t.actuator.direction, t.out)) = some (0#8, true, [Command.actStop]) ∧
    (after (.actDir true) run1).map (fun t => t.actuator.direction) = some true ∧
    (after (.actStep 2#8) run1).map (fun t => (t.actuator.pulses, t.levels.idle, t.out)) =
      some (2#8, false, [Command.actStep 2#8]) ∧
    after (.actStep 0#8) run1 = none := by decide

theorem test_display :
    (after (.dspWrite 4#3 4#8) run1).map (fun t => (t.display.led, t.display.pos0)) = some (4#8, 0#8) ∧
    (after (.dspWrite 2#3 9#8) run1).map (fun t => (t.display.pos2, t.display.pos1)) = some (9#8, 0#8) ∧
    after (.dspWrite 5#3 4#8) run1 = none := by decide

/-- R216 to R218: `rot = 5, d = -7` gives -2, and 0x7FFF wraps to 0x8000. -/
theorem test_rotary :
    (after .rotGet (withInputs 0#8 0xFFFA#16 0#32 s0)).map (fun t => (t.ul.r, t.input.rot)) =
      some (0xFFFA#16, 0xFFFA#16) ∧
    (after (.rotSet 5#16) s0).map (fun t => (t.input.rot, t.out)) = some (5#16, [Command.rotSet 5#16]) ∧
    (after (.rotMove (-7)) (withInputs 0#8 5#16 0#32 s0)).map (fun t => t.input.rot) = some 0xFFFE#16 ∧
    (after (.rotMove 1) (withInputs 0#8 0x7FFF#16 0#32 s0)).map (fun t => t.input.rot) = some 0x8000#16 := by decide

theorem test_caRead : (after .caRead (withInputs 3#8 0#16 0#32 s0)).map (fun t => (t.ul.c, t.input.clicksOut)) =
    some (3#8, 0#8) := by decide

/-- A button unit. -/
def button (level : Bool) (run : BitVec 6) (cnt age out : Byte) : State :=
  { s0 with input := { rot := 9#16, btnLevel := level, btnRun := run, burstCnt := cnt, burstAge := age, clicksOut := out } }

/-- R211: the 50th differing sample is the click, and it opens the burst. -/
theorem test_caSample_click :
    after (.caSample true) (button false 48#6 0#8 0#8 0#8) = some (button false 49#6 0#8 0#8 0#8) ∧
    after (.caSample true) (button false 49#6 0#8 0#8 0#8) = some (button true 0#6 1#8 0#8 0#8) := by decide

/-- R212: the 250th tick after the last click closes the burst; a further click saturates at 255. -/
theorem test_caSample_burst :
    after (.caSample true) (button true 0#6 3#8 248#8 7#8) = some (button true 0#6 3#8 249#8 7#8) ∧
    after (.caSample true) (button true 0#6 3#8 249#8 7#8) = some (button true 0#6 0#8 0#8 3#8) ∧
    after (.caSample true) (button false 49#6 255#8 9#8 0#8) = some (button true 0#6 255#8 0#8 0#8) := by decide

/-- R221: the level changes on the 10th differing sample; an equal sample restarts the run. -/
theorem test_alSample :
    (after (.alSample true) { s0 with alarm := { level := false, run := 8#4 } }).map (fun t => t.alarm) =
      some { level := false, run := 9#4 } ∧
    (after (.alSample true) { s0 with alarm := { level := false, run := 9#4 } }).map (fun t => t.alarm) =
      some { level := true, run := 0#4 } ∧
    (after (.alSample false) { s0 with alarm := { level := false, run := 9#4 } }).map (fun t => t.alarm) =
      some { level := false, run := 0#4 } := by decide

/-! ### What a step refuses -/

theorem test_step_reserved :
    step { s0 with slots := [{ port := .act, word := 0x300#24, levels := s0.levels, landings := [] }] } =
      .refused (.reservedWord (.reserved .act)) := rfl

/-! ### A witness for each obligation that has hypotheses, and for each of its clauses -/

theorem witness_DecodeOfEncodeIsTheInstruction :
    (Instr.actStep 255#8).wellFormed = true ∧ (Instr.dspWrite 4#3 0xFF#8).wellFormed = true ∧
    (Instr.rotMove 0x8000#16).wellFormed = true := by decide

theorem witness_DecodedInstructionBelongsToItsPort :
    decode .dsp 0x4FF#24 = .ok (.dspWrite 4#3 0xFF#8) ∧ decode .act 0x301#24 = .ok (.actStep 1#8) ∧
    decode .uit 0x7F#24 = .ok .uiFaultClear := by decide

theorem witness_ReservedWordsAreRejected :
    decode .act 0x3FF#24 ≠ .error (.reserved .act) ∧ decode .act 0x300#24 = .error (.reserved .act) ∧
    decode .act 0x400#24 = .error (.tooWide .act) ∧ decode .tickSeq 9#24 = .ok .synHalt ∧
    decode .uiSeq 7#24 = .error (.reserved .uiSeq) ∧ decode .dsp 0x7FF#24 = .error (.reserved .dsp) := by decide

theorem witness_WordsOfTheTablesDecode :
    (7#24 : PortWord).toNat < 8 ∧ decode .ev 7#24 = .ok .reset ∧ decode .ev 3#24 = .ok .tickUicyc := by decide

/-- One presentation on a port, with the levels the machine has. -/
def presenting (p : Port) (w : PortWord) (s : State) : State :=
  { s with slots := [{ port := p, word := w, levels := s.levels, landings := [] }] }

theorem witness_StepRunsTheDecodedInstruction :
    ∃ x rest i, (presenting .ev 2#24 run1).slots = x :: rest ∧ decode x.port x.word = .ok i :=
  ⟨_, _, .tick, rfl, rfl⟩

theorem witness_StepWithoutAnInstruction :
    run1.slots = [] ∧
    ∃ x rest e, (presenting .uiSeq 7#24 run1).slots = x :: rest ∧ decode x.port x.word = .error e :=
  ⟨rfl, _, _, .reserved .uiSeq, rfl, rfl⟩

theorem witness_CompositeEventsRunTheirPhases : run1.landings = [] := rfl

/-- A record of Table P with another `JITTER_THRESH` is another machine: the filter reads the record. -/
theorem test_synFilter_reads_its_parameter :
    (after .synFilter { deltas (-9) 1 with cfg := { fixture with jitterThresh := 9 } }).map (fun t => t.tl.filt) =
      some false := by decide

theorem witness_SynFilterDropsSmallReversals : ∃ t u,
    exec .synFilter (deltas (-9) 1) = .next t ∧ t.tl.filt = true ∧
    exec .synFilter (deltas (-10) 1) = .next u ∧ u.tl.filt = false := ⟨_, _, rfl, by decide, rfl, by decide⟩

/-- A tick that the filter dropped. -/
def dropped : State := { deltas (-3) 5 with tl := { (deltas (-3) 5).tl with filt := true } }

theorem witness_SynAccumAddsAcceptedMotion :
    dropped.tl.filt = true ∧ (deltas 0x8000#16 9).tl.filt = false := by decide

/-- At the low-water mark itself no clause holds; one below it, one does. -/
theorem witness_SynRebaseSetsTheBaseline : s0.cfg.fixedOk = true ∧
    RebaseDemanded (nearLowWater 0xFFFF#32) 0x10000#32 false (nearLowWater 0xFFFF#32).sync.spindlePos.toNat ∧
    ¬ RebaseDemanded (nearLowWater 0x10000#32) 0x10000#32 false (nearLowWater 0x10000#32).sync.spindlePos.toNat := by
  exact ⟨by decide, by unfold RebaseDemanded; decide⟩

theorem witness_SynFchkLatchesTheLaterFault :
    ({ s0 with alarm := { level := true, run := 0#4 } } : State).alarm.level = true ∧
    ({ s0 with tl := { s0.tl with absSteps := 256#32 } } : State).tl.absSteps.toNat = 256 := by decide

theorem witness_SynIssueCommandsTheOwedSteps :
    (sevenBack.shared.fault = .none ∧ sevenBack.tl.steps ≠ 0#32 ∧ sevenBack.levels.idle = true) ∧
    (faulted .servoAlarm sevenBack).shared.fault ≠ .none ∧ run1.tl.steps = 0#32 := by decide

theorem witness_SynHaltStopsWhileFaulted :
    (faulted .tooManySteps run1).shared.fault ≠ .none ∧ run1.shared.fault = .none := by decide

/-- The tick drops a reversal of nine counts, and accepts one of ten. -/
def turning : State := { run1 with sync := { run1.sync with lastDelta := 1#16 } }

theorem witness_TickLeavesTheUiContext : ∃ t u,
    exec .tick (withRaw 0xFFF7#16 turning) = .next t ∧ t.tl.filt = true ∧
    exec .tick (withRaw 0xFFF6#16 turning) = .next u ∧ u.tl.filt = false := ⟨_, _, rfl, by decide, rfl, by decide⟩

/-- At 255 owed steps the tick issues them; at 256 it stops (95_test_vectors.md 1.3). -/
theorem witness_TickEmitsOneSequence : run1.cfg.fixedOk = true ∧ ∃ t u,
    exec .tick (withRaw 255#16 run1) = .next t ∧ t.shared.fault = .none ∧ t.tl.steps.toInt = 255 ∧
    exec .tick (withRaw 256#16 run1) = .next u ∧ 255 < u.tl.steps.toInt.natAbs :=
  ⟨by decide, _, _, rfl, by decide, by decide, rfl, by decide⟩

/-- A latched fault in Fault with `c` clicks reported. -/
def inFault (c : Byte) : State := withInputs c 0#16 9#32 (faulted .servoAlarm (at_ .fault fixture.defaults))

/-- A `TICK`, a cycle in Fault with three clicks, and a `TICK` with a cycle in Fault, with three clicks reported after
the `TICK`. -/
theorem witness_FaultIsSticky : (∃ t, exec .tick (faulted .servoAlarm run1) = .next t) ∧
    (faulted .servoAlarm run1).shared.fault ≠ .none ∧ (∃ t, exec .uicyc (inFault 3#8) = .next t) ∧
    (inFault 3#8).shared.fault ≠ .none ∧ ¬ ((inFault 3#8).ui.state = .fault ∧ (inFault 3#8).cfg.quad < (inFault 3#8).input.clicksOut.toNat) ∧
    (∃ t, exec .tickUicyc (inFault 3#8) = .next t) ∧ (∃ u, exec .tick (inFault 3#8) = .next u ∧ u.ui.state = .fault ∧
      ¬ u.cfg.quad < u.input.clicksOut.toNat) :=
  ⟨⟨_, rfl⟩, by decide, ⟨_, rfl⟩, by decide, by decide, ⟨_, rfl⟩, ⟨_, rfl, by decide, by decide⟩⟩

/-- A quad-click in Fault, with a `TICK` landing inside the cycle. -/
def clearing : State :=
  { withInputs 4#8 0#16 9#32 (faulted .servoAlarm (at_ .fault fixture.defaults)) with
    landings := [[.tick s0.levels]] }

theorem witness_OnlyAQuadClickInFaultClears : ∃ t, exec .uicyc clearing = .next t ∧
    clearing.shared.fault ≠ .none ∧ t.shared.fault = .none := ⟨_, rfl, by decide, by decide⟩

/-- The cached ratio differs from the shared one. -/
def ratioChanged : State := { withRaw 7#16 run1 with shared := { run1.shared with ratio := 0x20000#32 } }

/-- Ten counts back from `pos`, with the cache valid and nothing changed. -/
def backFrom (pos : Word32) : State :=
  withRaw 0xFFF6#16 { run1 with sync := { run1.sync with spindlePos := pos, servoPos := pos } }

/-- The cache, the ratio, and the low-water mark alone: the tick leaves the position one below the mark, or at it. -/
theorem witness_RebaselinedStepsAreThisTicksMotion :
    run1.cfg.fixedOk = true ∧
    (∀ pos, RebaseDemanded ratioChanged ratioChanged.shared.ratio ratioChanged.shared.reverse pos) ∧
    (∀ pos, RebaseDemanded { run1 with sync := { run1.sync with cacheValid := false } } 0x10000#32 false pos) ∧
    (∃ t, exec .tick (backFrom 0x10009#32) = .next t ∧ RebaseDemanded (backFrom 0x10009#32) 0x10000#32 false
        (positionAfterAccum (backFrom 0x10009#32) t.tl.filt t.tl.delta.toInt) ∧ t.tl.steps.toInt = -10) ∧
    (∃ t, exec .tick (backFrom 0x1000A#32) = .next t ∧ ¬ RebaseDemanded (backFrom 0x1000A#32) 0x10000#32 false
        (positionAfterAccum (backFrom 0x1000A#32) t.tl.filt t.tl.delta.toInt)) :=
  ⟨by decide, fun _ => .inr (.inl (by decide)), fun _ => .inl rfl,
    ⟨_, rfl, .inr (.inr (.inr (by decide))), by decide⟩, ⟨_, rfl, by unfold RebaseDemanded; decide⟩⟩

theorem witness_RatioChangeRaisesNoFault : ratioChanged.cfg.fixedOk = true ∧
    ratioChanged.shared.fault = .none ∧ ratioChanged.sync.cachedRatio ≠ ratioChanged.shared.ratio ∧
    ∃ t, exec .tick ratioChanged = .next t ∧ t.alarm.level = false ∧
      t.tl.delta.toInt.natAbs * ratioChanged.shared.ratio.toNat ≤ 255 * 65536 :=
  ⟨by decide, by decide, by decide, _, rfl, by decide, by decide⟩

/-- Two ticks, of seven counts forward and twenty back. -/
theorem witness_SteadyTicksConserveMotion :
    ∃ t, SteadyTicks [(withRaw 7#16 run1).levels, (withRaw 0xFFF3#16 run1).levels] run1 (-13) t := by
  refine ⟨_, _, -20, rfl, by decide, by unfold RebaseDemanded; decide,
    ⟨_, 0, rfl, by decide, by unfold RebaseDemanded; decide, ⟨rfl, rfl⟩, by decide⟩, by decide⟩

theorem witness_IdleTickReachesTheTarget : (withRaw 7#16 run1).levels.idle = true ∧
    ∃ t, exec .tick (withRaw 7#16 run1) = .next t ∧ t.shared.fault = .none := ⟨by decide, _, rfl, by decide⟩

theorem witness_LatchedTickRebaselinesAndStops :
    (faulted .tooManySteps s0).shared.fault ≠ .none ∧ (faulted .tooManySteps s0).sync.cacheValid = false := by decide

theorem witness_UiSampleAndActivity :
    s0.landings = [] ∧ (s0.ul.c = 0#8 ∧ s0.ul.r = s0.ui.lastRot) ∧
    ({ s0 with ul := { s0.ul with c := 1#8 } } : State).ul.c ≠ 0#8 ∧
    ({ s0 with ul := { s0.ul with r := 1#16 } } : State).ul.r ≠ s0.ui.lastRot := by decide

/-- The three clauses; the knob at 3 and 4, at row 7 and past it. -/
theorem witness_UiPendStagesTheKnob : s0.cfg.fixedOk = true ∧
    (knobAt .idle 3#16).ul.st = .idle ∧
    entersFault { knobAt .changeUnits 3#16 with ul := { s0.ul with op := .faultEnterU } }.ul.op = true ∧
    (entersFault (knobAt .changeUnits 3#16).ul.op = false ∧ (knobAt .changeUnits 3#16).ul.st = .changeUnits ∧
      0 ≤ (knobAt .changeUnits 3#16).ul.r.toInt ∧ (knobAt .changeUnits 3#16).ul.r.toInt ≤ 3) ∧
    ¬ (knobAt .changeUnits 4#16).ul.r.toInt ≤ 3 ∧
    (entersFault (knobAt .changeValue 7#16).ul.op = false ∧ (knobAt .changeValue 7#16).ul.st = .changeValue ∧
      (knobAt .changeValue 7#16).ul.r.toInt ≤ (lastRow fixture 0#2 : Int)) ∧
    ¬ (knobAt .changeValue 8#16).ul.r.toInt ≤ (lastRow fixture 0#2 : Int) := by decide

theorem witness_UiRenderWritesTheDisplay :
    (at_ .fault fixture.defaults).landings = [] ∧ (at_ .fault fixture.defaults).ui.state = .fault ∧
    (at_ .changeValue fixture.defaults).ui.state = .changeValue ∧
    (at_ .changeUnits fixture.defaults).ui.state = .changeUnits ∧ s0.ui.state = .idle ∧
    (127#32 : Word32).toNat / 2 ^ s0.cfg.flashBit % 2 = 0 ∧ (128#32 : Word32).toNat / 2 ^ s0.cfg.flashBit % 2 = 1 := by
  decide

theorem witness_TableReadClampsTheIndex :
    (7#15 : RowIndex).toNat < (tableOf fixture 0#2).size ∧ (tableOf fixture 0#2).size ≤ (8#15 : RowIndex).toNat := by decide

/-- Nothing lands; a knob movement and then a `TICK` land; a `TICK` lands alone. -/
theorem witness_UiOutputWritesTheCommittedPair :
    s0.landings = [] ∧ (∃ here later u,
      ({ s0 with landings := [[.knob 3#16, .tick (withRaw 7#16 s0).levels]] } : State).landings = here :: later ∧
      Landed here s0 u ∧ u.input.rot = 3#16 ∧ u.tl.delta = 7#16) ∧
    ∃ x later, ({ s0 with landings := [[.tick s0.levels]] } : State).landings = [.tick x] :: later :=
  ⟨rfl, ⟨_, _, _, rfl, ⟨_, rfl, _, rfl, rfl⟩, by decide, by decide⟩, _, _, rfl⟩

theorem witness_UicycLeavesTheTickContext : run1.landings = [] := rfl

theorem witness_NoCommitWithoutAClick : (withInputs 0#8 6#16 1#32 (at_ .changeValue fixture.defaults)).input.clicksOut = 0#8 := rfl

/-- An edit with the knob and the clicks untouched; 5000 ticks have passed, or 5001. -/
def idleEdit (t : Word32) : State := withInputs 0#8 0#16 t (at_ .changeUnits fixture.defaults)

theorem witness_EditTimesOutAfterIdleTicks :
    (idleEdit 5000#32).landings = [] ∧ (idleEdit 5000#32).ui.state = .changeUnits ∧
    (idleEdit 5000#32).shared.fault = .none ∧ (idleEdit 5000#32).input.clicksOut = 0#8 ∧
    (idleEdit 5000#32).input.rot = (idleEdit 5000#32).ui.lastRot ∧
    ((after .uicyc (idleEdit 5000#32)).map (fun t => t.ui.state)) = some .changeUnits ∧
    ((after .uicyc (idleEdit 5001#32)).map (fun t => t.ui.state)) = some .idle := by decide

/-- Three clicks hold, four clear. -/
theorem witness_FaultClearIsGated :
    (inFault 3#8).landings = [] ∧ (inFault 3#8).ui.state = .fault ∧ (inFault 3#8).input.clicksOut.toNat ≤ s0.cfg.quad ∧
    s0.cfg.quad < (inFault 4#8).input.clicksOut.toNat := by decide

/-- Row 5 is the last the statement admits and the fixture's table 0 has it. -/
def doubleClicked : State := withInputs 2#8 0x123#16 0#32 (at_ .idle { units := 0#2, value := 5#15, reverse := false })

theorem witness_UiRoundTrip : doubleClicked.cfg.fixedOk = true ∧
    doubleClicked.landings = [] ∧ doubleClicked.ui.state = .idle ∧ doubleClicked.shared.fault = .none ∧
    6 ≤ (tableOf doubleClicked.cfg 0#2).size ∧
    doubleClicked.ui.active = { units := 0#2, value := 5#15, reverse := false } ∧
    doubleClicked.input.clicksOut = 2#8 := by decide

theorem witness_ActuatorCommands : (1#8 : Byte) ≠ 0#8 ∧ (after (.actStep 1#8) s0).isSome = true := by decide

theorem witness_DisplayWriteShowsTheValue : (4#3 : BitVec 3).toNat ≤ 4 ∧ 5 ≤ (5#3 : BitVec 3).toNat := by decide

/-- The clauses of the aggregation: a click, no burst, an open burst one tick before its window ends, and at its end. -/
theorem witness_ClickSampleDebouncesAndAggregates :
    s0.cfg.windowsOk = true ∧
    ((button false 49#6 0#8 0#8 0#8).input.btnLevel = false ∧
      (after (.caSample true) (button false 49#6 0#8 0#8 0#8)).map (fun t => t.input.btnLevel) = some true) ∧
    ((button true 0#6 3#8 248#8 7#8).input.btnLevel = true ∧ (button true 0#6 3#8 248#8 7#8).input.burstCnt ≠ 0#8 ∧
      (button true 0#6 3#8 248#8 7#8).input.burstAge.toNat + 1 < s0.cfg.aggTicks) ∧
    s0.cfg.aggTicks ≤ (button true 0#6 3#8 249#8 7#8).input.burstAge.toNat + 1 ∧
    (button false 48#6 0#8 0#8 0#8).input.burstCnt = 0#8 := by decide

theorem witness_ButtonLevelChangesAfterAWindow :
    s0.cfg.windowsOk = true ∧ s0.input.btnLevel ≠ true ∧ s0.input.btnRun = 0#6 ∧ 49 < s0.cfg.debounceTicks ∧
    50 = s0.cfg.debounceTicks := by decide

/-- An open burst of three clicks with the button down, on a machine with short windows. -/
def shortBurst : State :=
  { button true 0#6 3#8 0#8 0#8 with cfg := { fixture with debounceTicks := 2, aggTicks := 5 } }

/-- Inside the follow-on window the button is released, which takes two samples, and bounces once: four samples are
not the window, five are. -/
theorem witness_BurstClosesAfterTheWindow :
    shortBurst.cfg.windowsOk = true ∧ shortBurst.input.burstCnt ≠ 0#8 ∧ shortBurst.input.burstAge = 0#8 ∧
    [false, false, true, false].length < shortBurst.cfg.aggTicks ∧ NoClick [false, false, true, false] shortBurst ∧
    [false, false, true, false, false].length = shortBurst.cfg.aggTicks ∧
    NoClick [false, false, true, false, false] shortBurst ∧
    (after (.caSample false) shortBurst).bind (fun t => (after (.caSample false) t).map (fun u => u.input.btnLevel)) =
      some false :=
  ⟨by decide, by decide, rfl, by decide,
    ⟨_, rfl, by decide, _, rfl, by decide, _, rfl, by decide, _, rfl, by decide, trivial⟩, rfl,
    ⟨_, rfl, by decide, _, rfl, by decide, _, rfl, by decide, _, rfl, by decide, _, rfl, by decide, trivial⟩, by decide⟩

theorem witness_AlarmSampleDebounces : s0.cfg.windowsOk = true := by decide

theorem witness_AlarmLatchesOnTheTickThatSettles :
    ({ s0 with levels := { s0.levels with alarmRaw := true } } : State).levels.alarmRaw = true ∧
    s0.cfg.windowsOk = true ∧ s0.alarm.level = false ∧ s0.alarm.run = 0#4 ∧ 9 < s0.cfg.alarmStable ∧
    10 = s0.cfg.alarmStable := by decide

theorem witness_RotaryCodesAreInverse :
    (0xFFFF#16 : Word16).toInt < 0 ∧ ¬ (0x7FFF#16 : Word16).toInt < 0 := by decide

/-- The invariant holds of a machine with an event presented, and the step that takes it answers a next state. -/
theorem witness_EveryStepKeepsTheBlockInvariant :
    BlockInv (presenting .ev 3#24 run1) ∧ ∃ t, step (presenting .ev 3#24 run1) = .next t :=
  ⟨⟨by decide, by decide, by decide, by decide, by decide, by decide, by decide, by decide, by decide, by decide,
    by decide, by decide, by simp [presenting, Presentable]⟩, _, rfl⟩

end Sys2Proof.Tests
end

section
/-! PROOF. A latched fault is sticky (R47): the latch goes back to None only by the explicit clear or `RESET`, whatever
`TICK`s and knob movements land inside an instruction. Three layers: which row of Table E4 is the clear, the state in
which a `UICYC` picks its row, and the instructions that leave the latch alone. -/

namespace Sys2Proof.Machine

/-! ### The clear as a row of Table T -/

/-- Table T picks the clear in the Fault state, above `QUAD` clicks, and nowhere else (R176, R187). -/
theorem tableT_eq_faultClear_iff (quad : Nat) (st : UiState) (f : Bool) (c : Nat) (tmo : Bool) :
    tableT quad st f c tmo = .faultClear ↔ st = .fault ∧ quad < c := by
  cases st with
  | fault =>
    by_cases hq : quad < c
    · simp [tableT, hq]
    · by_cases hc : 1 ≤ c <;> simp [tableT, hq, hc]
  | idle | changeUnits | changeValue =>
    cases f with
    | true => simp [tableT]
    | false =>
      simp only [tableT, reduceCtorEq, false_and, iff_false]
      repeat' split
      all_goals simp

/-- A transition other than the clear keeps a latched fault (R166). -/
theorem uiTrans_latched (s : State) (h : s.shared.fault ≠ .none) (hop : s.ul.op ≠ .faultClear) :
    (uiTrans s).shared.fault ≠ .none := by
  rw [uiTrans, performOp_shared _ _ hop]
  exact h

/-! ### A `UICYC` up to the transition it picks -/

/-- The state in which a `UICYC` begun in `s` performs its `UI.TRANS` (R161). -/
def beforeTrans (s : State) : State :=
  boundary (uiPend (boundary (uiDecode (boundary (uiActivity (boundary (uiSample s)))))))

theorem uicyc_eq_beforeTrans (s : State) :
    uicyc s = uiOutput (boundary (uiRender (boundary (uiTrans (beforeTrans s))))) := rfl

/-- A cycle picks the clear exactly if it began in Fault with more than `QUAD` clicks reported: no landing changes the
state register, and the click count is read before the first boundary. -/
theorem beforeTrans_op_eq_faultClear_iff (s : State) :
    (beforeTrans s).ul.op = .faultClear ↔ s.ui.state = .fault ∧ s.cfg.quad < s.input.clicksOut.toNat := by
  simp [beforeTrans, tableT_eq_faultClear_iff]

theorem beforeTrans_latched (s : State) (h : s.shared.fault ≠ .none) : (beforeTrans s).shared.fault ≠ .none := by
  have hSample : (boundary (uiSample s)).shared.fault ≠ .none := boundary_latched _ (uiSample_latched s h)
  have hActivity : (boundary (uiActivity (boundary (uiSample s)))).shared.fault ≠ .none :=
    boundary_latched _ (by rwa [uiActivity_shared])
  have hDecode : (boundary (uiDecode (boundary (uiActivity (boundary (uiSample s)))))).shared.fault ≠ .none :=
    boundary_latched _ hActivity
  exact boundary_latched _ (by rwa [uiPend_shared])

/-- A latched fault stays latched across a cycle that cannot pick the clear, whatever lands inside it (R47). -/
theorem uicyc_latched (s : State) (h : s.shared.fault ≠ .none)
    (hclear : ¬ (s.ui.state = .fault ∧ s.cfg.quad < s.input.clicksOut.toNat)) : (uicyc s).shared.fault ≠ .none := by
  have hop : (beforeTrans s).ul.op ≠ .faultClear := mt (beforeTrans_op_eq_faultClear_iff s).1 hclear
  have hTrans := boundary_latched _ (uiTrans_latched _ (beforeTrans_latched s h) hop)
  rw [uicyc_eq_beforeTrans]
  exact uiOutput_latched _ (boundary_latched _ (uiRender_latched _ hTrans))

/-! ### The instructions one by one -/

theorem synFchk_latched (s : State) (h : s.shared.fault ≠ .none) : (synFchk s).shared.fault ≠ .none := by
  rw [synFchk_eq, State.setShared_shared]
  dsimp only
  split
  · simp
  · split
    · simp
    · exact h

/-- The instructions that can write the latch themselves, or inside which a `TICK` can run. -/
def touchesLatch : Instr → Bool
  | .reset | .uicyc | .tick | .tickUicyc | .synFchk | .uiSample | .uiTrans | .uiRender | .uiOutput
  | .uiFaultClear => true
  | _ => false

/-- Every other instruction leaves the latch as it is. -/
theorem exec_fault_of_not_touchesLatch (i : Instr) (s t : State) (hi : touchesLatch i = false)
    (h : exec i s = .next t) : t.shared.fault = s.shared.fault := by
  cases i with
  | reset | uicyc | tick | tickUicyc | synFchk | uiSample | uiTrans | uiRender | uiOutput | uiFaultClear => cases hi
  | synAccum => cases h; rw [synAccum_shared]
  | synRebase => cases h; rw [synRebase_shared]
  | synIssue => cases h; rw [synIssue_shared]
  | synHalt => cases h; rw [synHalt_shared]
  | uiActivity => cases h; rw [uiActivity_shared]
  | uiPend => cases h; rw [uiPend_shared]
  | actStep n =>
    rcases execActStep_cases n s with ⟨-, hn⟩ | ⟨-, hn⟩
    · cases hn.symm.trans h
    · cases hn.symm.trans h; rfl
  | dspWrite r v =>
    rcases execDspWrite_cases r v s with ⟨-, hr⟩ | ⟨-, hr⟩
    · cases hr.symm.trans h; rfl
    · cases hr.symm.trans h
  | _ => cases h; rfl

/-- Settles O22: the instructions that touch the latch one by one, each by the lemma that its operation keeps a latched
fault; every other instruction leaves the latch as it is. -/
theorem faultIsSticky : Obligations.FaultIsSticky := by
  refine ⟨rfl, fun i s t h hlatched hReset hClear hTrans hCycle hTickCycle => ?_⟩
  by_cases hi : touchesLatch i = false
  · rwa [exec_fault_of_not_touchesLatch i s t hi h]
  cases i with
  | reset => exact absurd rfl hReset
  | uiFaultClear => exact absurd rfl hClear
  | uiTrans => cases h; exact uiTrans_latched s hlatched (hTrans rfl)
  | uicyc => cases h; exact uicyc_latched s hlatched (hCycle rfl)
  | tickUicyc =>
    obtain rfl : uicyc (tick s) = t := Host.Outcome.next.inj h
    exact uicyc_latched _ (tick_latched s hlatched) (hTickCycle rfl (tick s) rfl)
  | tick => cases h; exact tick_latched s hlatched
  | synFchk => cases h; exact synFchk_latched s hlatched
  | uiSample => cases h; exact uiSample_latched s hlatched
  | uiRender => cases h; exact uiRender_latched s hlatched
  | uiOutput => cases h; exact uiOutput_latched s hlatched
  | _ => exact absurd rfl hi

end Sys2Proof.Machine
end

section
/-! PROOF. The Position Synchronizer phase by phase (40_synchronizer.md R130 to R141), the fixed-point multiply (R144),
and the composite events (R61, R91, R141, R161). Three layers: the modular arithmetic of the positions, chains of
instructions with and without landings between them, and the statements, each phase by what Laws/Ops.lean says it can
do. -/

namespace Sys2Proof.Machine

/-! ### Modular arithmetic of the positions -/

/-- A wrapped difference, read signed, is congruent to the difference of the unsigned values (R131, R136). -/
theorem toInt_sub_congr {w : Nat} (x y : BitVec w) :
    ((x - y).toInt - ((x.toNat : Int) - (y.toNat : Int))) % ((2 ^ w : Nat) : Int) = 0 := by
  have h : (x - y).toInt = ((x.toNat : Int) - (y.toNat : Int)).bmod (2 ^ w) := by
    rw [BitVec.toInt_sub, BitVec.toInt_eq_toNat_bmod x, BitVec.toInt_eq_toNat_bmod y, Int.bmod_sub_bmod,
      Int.sub_bmod_bmod]
  rw [h]
  exact Int.emod_eq_zero_of_dvd Int.dvd_bmod_sub_self

/-- Adding a word is adding its signed value, modulo 2^32 (R138, R143). -/
theorem toNat_add_toInt (pos steps : Word32) :
    ((pos + steps).toNat : Int) = ((pos.toNat : Int) + steps.toInt) % 2 ^ 32 := by
  rw [BitVec.toNat_add, BitVec.toInt_eq_toNat_cond]
  split <;> omega

/-- A 32-bit pattern's signed value. -/
theorem word32_toInt_bounds (x : Word32) : -2 ^ 31 ≤ x.toInt ∧ x.toInt < 2 ^ 31 :=
  ⟨BitVec.le_toInt x, BitVec.toInt_lt⟩

/-! ### The fixed-point multiply -/

/-- A ratio of 1.0 changes nothing (R144). -/
theorem fxmul_one (a : Word32) : fxmul a 0x00010000#32 = a := by
  apply BitVec.eq_of_toNat_eq
  have := a.isLt
  rw [fxmul_toNat, BitVec.toNat_ofNat]
  omega

/-- A zero ratio gives zero (R144). -/
theorem fxmul_zero (a : Word32) : fxmul a 0#32 = 0#32 := by simp [fxmul]

/-- A zero position gives zero (R144). -/
theorem zero_fxmul (r : Word32) : fxmul 0#32 r = 0#32 := by simp [fxmul]

/-- Scaling 2^31 by a ratio is a shift of the ratio (R144). -/
theorem fxmul_bias (r : Word32) : fxmul 0x80000000#32 r = r <<< 15 := by
  apply BitVec.eq_of_toNat_eq
  rw [fxmul_toNat, BitVec.toNat_shiftLeft, Nat.shiftLeft_eq, BitVec.toNat_ofNat]
  omega

/-! ### Chains of instructions -/

/-- A chain goes on from the state its first instruction answers. -/
theorem execAll_cons_of_next {i : Instr} {is : List Instr} {s t : State} (h : exec i s = .next t) :
    execAll (i :: is) s = execAll is t := by
  rw [execAll, h]

/-- One instruction, the boundary after it, and the rest. -/
theorem interleaved_cons {i j : Instr} {is : List Instr} {s u t : State} (h : exec i s = .next u)
    (hrest : Interleaved (j :: is) (boundary u) t) : Interleaved (i :: j :: is) s t :=
  ⟨u, boundary u, h, boundary_spec u, hrest⟩

/-- With nothing ahead a boundary changes nothing. -/
theorem Boundary.eq_of_nil {s t : State} (h : Boundary s t) (hs : s.landings = []) : t = s := by
  rcases h with ⟨-, ht⟩ | ⟨here, later, hl, -⟩
  · exact ht
  · rw [hs] at hl; cases hl

/-- An instruction that puts no landings ahead where there are none. -/
def KeepsNoLandings (i : Instr) : Prop :=
  ∀ s t : State, s.landings = [] → exec i s = .next t → t.landings = []

/-- With nothing ahead, an interleaving of such instructions is the instructions alone (R61). -/
theorem Interleaved.execAll_of_nil : ∀ {is : List Instr} {s t : State}, (∀ i ∈ is, KeepsNoLandings i) →
    s.landings = [] → Interleaved is s t → execAll is s = .next t
  | [], _, _, _, _, h => by rw [execAll, h]
  | [i], _, _, _, _, h => execAll_cons_of_next h
  | i :: j :: is, s, t, hkeep, hs, ⟨u, v, hu, huv, hrest⟩ => by
    have hu' : u.landings = [] := hkeep i List.mem_cons_self s u hs hu
    obtain rfl : v = u := huv.eq_of_nil hu'
    rw [execAll_cons_of_next hu]
    exact Interleaved.execAll_of_nil (fun k hk => hkeep k (List.mem_cons_of_mem i hk)) hu' hrest

/-! ### The composite events -/

/-- The prologue's counter is `(tick_count + 1) mod 2^32` (R141). -/
theorem setTickCount_succ (s : State) :
    s.setTickCount (s.tickCount + 1#32) = { s with tickCount := BitVec.ofNat 32 (s.tickCount.toNat + 1) } := by
  have h : s.tickCount + 1#32 = BitVec.ofNat 32 (s.tickCount.toNat + 1) := by
    rw [BitVec.ofNat_add, BitVec.ofNat_toNat, BitVec.setWidth_eq]
  rw [h, State.setTickCount]

/-- A `TICK` is its prologue and the ten phases, one after the other (R92, R141). -/
theorem execAll_tickPhases (s : State) :
    execAll (.alSample s.levels.alarmRaw :: .caSample s.levels.btnRaw :: tickPhases)
      { s with tickCount := BitVec.ofNat 32 (s.tickCount.toNat + 1) } = .next (tick s) := by
  rw [← setTickCount_succ]
  rfl

/-- A `UICYC` is its seven phases with a boundary between any two (R61, R93, R161). -/
theorem uicyc_interleaved (s : State) : Interleaved uiPhases s (uicyc s) := by
  iterate 6 refine interleaved_cons rfl ?_
  rfl

/-- No phase of a `UICYC` puts landings ahead. -/
theorem uiPhases_keepNoLandings (i : Instr) (hi : i ∈ uiPhases) : KeepsNoLandings i := by
  intro s t hs h
  simp only [uiPhases, List.mem_cons, List.not_mem_nil, or_false] at hi
  rcases hi with rfl | rfl | rfl | rfl | rfl | rfl | rfl <;> cases h
  · exact uiSample_landings_of_nil s hs
  · rwa [uiActivity_landings]
  · exact hs
  · rwa [uiPend_landings]
  · rwa [uiTrans, performOp_landings]
  · exact uiRender_landings_of_nil s hs
  · rwa [uiOutput_of_nil s hs]

/-- Settles O9: the chain of a `TICK` and the interleaving of a `UICYC` are the two composites; with nothing ahead the
interleaving is the phases alone. -/
theorem compositeEventsRunTheirPhases : Obligations.CompositeEventsRunTheirPhases := by
  refine ⟨rfl, rfl, rfl, rfl, fun s => ⟨rfl, ?tick, ?uicyc, ?uicycAlone, ?both⟩⟩
  case tick => exact ⟨tick s, rfl, execAll_tickPhases s⟩
  case uicyc => exact ⟨uicyc s, rfl, uicyc_interleaved s⟩
  case uicycAlone =>
    exact fun hs => ⟨uicyc s, rfl, (uicyc_interleaved s).execAll_of_nil uiPhases_keepNoLandings hs⟩
  case both => exact ⟨tick s, uicyc (tick s), rfl, rfl, rfl⟩

/-! ### The phases of a `TICK` -/

/-- Settles O10: `SYN.SAMPLE` is one update of the tick's own values, by computation. -/
theorem synSampleCopiesTheSharedPair : Obligations.SynSampleCopiesTheSharedPair :=
  ⟨rfl, fun _ => rfl⟩

/-- Settles O11, by the congruence of a wrapped difference at 16 bits. -/
theorem synDeltaIsTheWrappedDifference : Obligations.SynDeltaIsTheWrappedDifference := by
  refine ⟨rfl, fun s => ⟨synDelta s, rfl, rfl, ?_⟩⟩
  obtain ⟨hlo, hhi⟩ := word16_toInt_bounds (spindleDelta s.levels.raw s.sync.lastRaw)
  exact ⟨hlo, hhi, toInt_sub_congr s.levels.raw s.sync.lastRaw⟩

/-- Settles O12: the filter's condition in words, with the magnitude as two strict bounds. -/
theorem synFilterDropsSmallReversals : Obligations.SynFilterDropsSmallReversals := by
  refine ⟨rfl, rfl, fun s => ⟨synFilter s, rfl, rfl, ?_⟩⟩
  have hmag : s.tl.delta.toInt.natAbs < s.cfg.jitterThresh ↔
      -(s.cfg.jitterThresh : Int) < s.tl.delta.toInt ∧ s.tl.delta.toInt < (s.cfg.jitterThresh : Int) := by omega
  rw [← hmag]
  exact jitter_iff _ _ _

/-- Settles O13, by the two cases of `SYN.ACCUM`. -/
theorem synAccumAddsAcceptedMotion : Obligations.SynAccumAddsAcceptedMotion := by
  refine ⟨rfl, fun s => ?_⟩
  rcases synAccum_cases s with ⟨hf, h⟩ | ⟨hf, h⟩
  · exact ⟨fun _ => congrArg Host.Outcome.next h, fun hf' => absurd (hf.symm.trans hf') nofun⟩
  · exact ⟨fun hf' => absurd (hf.symm.trans hf') nofun,
      fun _ => ⟨_, congrArg Host.Outcome.next h, rfl, accumulate_toNat _ _⟩⟩

/-- Settles O14, by the two cases of `SYN.REBASE`, whose trigger is the one R134 puts in words. -/
theorem synRebaseSetsTheBaseline : Obligations.SynRebaseSetsTheBaseline := by
  refine ⟨rfl, rfl, rfl, fun s => ?_⟩
  rw [← rebaseDue_iff]
  rcases synRebase_cases s with ⟨hd, h⟩ | ⟨hd, h⟩
  · exact ⟨fun hd' => absurd (hd.symm.trans hd') nofun, fun _ => congrArg Host.Outcome.next h⟩
  · exact ⟨fun _ => ⟨_, congrArg Host.Outcome.next h, rfl, accumulate_toNat _ _, fxmul_toNat _ _,
      fun hp => accumulate_bias s.cfg hp _⟩, fun hd' => absurd hd hd'⟩

/-- Settles O15: the target is the fixed-point product, whose value is bits 47..16 of the exact one. -/
theorem synTargetScalesThePosition : Obligations.SynTargetScalesThePosition :=
  ⟨rfl, fun s => ⟨synTarget s, rfl, rfl, fxmul_toNat s.sync.spindlePos s.tl.rs⟩⟩

/-- Settles O16, by the congruence of a wrapped difference at 32 bits and the exact magnitude. -/
theorem synStepsIsTheSignedDifference : Obligations.SynStepsIsTheSignedDifference := by
  refine ⟨rfl, fun s => ⟨synSteps s, rfl, rfl, ?_⟩⟩
  obtain ⟨hlo, hhi⟩ := word32_toInt_bounds (stepDifference s.tl.target s.sync.servoPos)
  exact ⟨hlo, hhi, toInt_sub_congr s.tl.target s.sync.servoPos, absSteps_toNat _⟩

/-- Settles O17: the latch after `SYN.FCHK`, with the step cap in words. -/
theorem synFchkLatchesTheLaterFault : Obligations.SynFchkLatchesTheLaterFault := by
  refine ⟨rfl, rfl, fun s => ⟨_, congrArg Host.Outcome.next (synFchk_eq s), rfl, ?_⟩⟩
  simp only [State.setShared_shared, overStepCap_iff]

/-- Settles O18, by the two cases of `SYN.ISSUE`. -/
theorem synIssueCommandsTheOwedSteps : Obligations.SynIssueCommandsTheOwedSteps := by
  refine ⟨rfl, fun s => ?_⟩
  rcases synIssue_cases s with ⟨hno, h⟩ | ⟨hf, hs, hi, h⟩
  · refine ⟨fun hf hs hi => absurd hno ?_, fun _ => congrArg Host.Outcome.next h⟩
    simp [hf, hs, hi]
  · refine ⟨fun _ _ _ => ⟨_, stepDirection s.tl.steps s.tl.rv, s.tl.absSteps.setWidth 8,
      congrArg Host.Outcome.next h, ?frame, stepDirection_iff _ _, BitVec.toNat_setWidth _ _, toNat_add_toInt _ _⟩,
      fun hno => absurd hno ?due⟩
    case frame => simp [sendStep_eq, sendDir_eq, State.setSync]
    case due => simp [hf, hs, hi]

/-- Settles O19, by the two cases of `SYN.HALT`. -/
theorem synHaltStopsWhileFaulted : Obligations.SynHaltStopsWhileFaulted := by
  refine ⟨rfl, fun s => ?_⟩
  rcases synHalt_cases s with ⟨hf, h⟩ | ⟨hf, h⟩
  · exact ⟨fun hf' => absurd hf hf', fun _ => congrArg Host.Outcome.next h⟩
  · exact ⟨fun _ => ⟨_, congrArg Host.Outcome.next h, rfl⟩, fun hf' => absurd hf' hf⟩

/-- Settles O58, by the laws of the multiply one by one. -/
theorem fixedPointMultiplyLaws : Obligations.FixedPointMultiplyLaws :=
  fun a r => ⟨fxmul_zero a, zero_fxmul r, fxmul_one a, fxmul_bias r, fxmul_toNat a r⟩

end Sys2Proof.Machine
end

section
/-! PROOF. The UI / Selection Controller (41_ui_controller.md R160 to R186): the seven phases, the transition operations
and the edit timeout. First the layer they read: the rotary code, the table read, the conditions in numbers, the rows of
Table E4 and the phases with nothing landing inside them; then the statements, each by what its phase or operation can
do. -/

namespace Sys2Proof.Machine

/-! ### The rotary code -/

/-- The sign of a register value is its direction (R101). -/
theorem rotDecode_snd_iff (raw : Word16) : (rotDecode raw).2 = true ↔ raw.toInt < 0 := by
  unfold rotDecode
  split
  · exact iff_of_false Bool.false_ne_true (by omega)
  · exact iff_of_true rfl (by omega)

/-- The magnitude of a register value; a negative one counts from -1 (R101). -/
theorem rotDecode_fst_toNat (raw : Word16) :
    ((rotDecode raw).1.toNat : Int) = if raw.toInt < 0 then -raw.toInt - 1 else raw.toInt := by
  have hraw := word16_toInt_bounds raw
  unfold rotDecode
  split
  · rw [if_neg (by omega), BitVec.toNat_ofNat]
    omega
  · rw [if_pos (by omega), BitVec.toNat_ofNat]
    omega

/-- The register value of a magnitude and a direction (R102). -/
theorem rotEncode_toInt (m : RowIndex) (rev : Bool) :
    (rotEncode m rev).toInt = if rev = true then -(m.toNat : Int) - 1 else (m.toNat : Int) := by
  have hm := m.isLt
  cases rev with
  | true =>
    simp only [rotEncode, if_true]
    exact BitVec.toInt_ofInt_eq_self (by decide) (by norm_num; omega) (by omega)
  | false =>
    simp only [rotEncode, Bool.false_eq_true, if_false]
    rw [BitVec.toInt_eq_toNat_of_lt (by rw [BitVec.toNat_ofNat]; omega), BitVec.toNat_ofNat]
    omega

/-- What is encoded decodes to itself (R101, R102). -/
theorem rotDecode_rotEncode (m : RowIndex) (rev : Bool) : rotDecode (rotEncode m rev) = (m, rev) := by
  have hmag := rotDecode_fst_toNat (rotEncode m rev)
  have hsign := rotDecode_snd_iff (rotEncode m rev)
  rw [rotEncode_toInt] at hmag hsign
  cases rev with
  | true =>
    simp only [if_true] at hmag hsign
    refine Prod.ext (BitVec.eq_of_toNat_eq ?_) (hsign.2 (by omega))
    dsimp only
    omega
  | false =>
    simp only [Bool.false_eq_true, if_false] at hmag hsign
    refine Prod.ext (BitVec.eq_of_toNat_eq ?_) (Bool.eq_false_iff.2 (mt hsign.1 (by omega)))
    dsimp only
    omega

/-! ### The table read -/

/-- A row in range is the list's. -/
theorem some_rowOf (x : FeedTable) (i : Nat) (h : i < x.size) :
    some (rowOf x i) = (x.first :: x.others)[i]? := by
  have hi : i < (x.first :: x.others).length := h
  rw [rowOf, List.getElem?_eq_getElem hi, Option.getD_some]

/-- An index in range is not clamped (R163). -/
theorem rowIdx_of_lt (p : Params) (u : Units) (v : RowIndex) (h : v.toNat < (tableOf p u).size) :
    rowIdx p u v = v.toNat := by
  rw [rowIdx, lastRow]
  omega

/-- An index past the end is clamped to the last row (R163). -/
theorem rowIdx_of_le (p : Params) (u : Units) (v : RowIndex) (h : (tableOf p u).size ≤ v.toNat) :
    rowIdx p u v = lastRow p u := by
  rw [rowIdx, lastRow]
  omega

/-- Settles O35: the clamped index is in range, and the last row is the one at the table's last index. -/
theorem tableReadClampsTheIndex : Obligations.TableReadClampsTheIndex := by
  refine fun p u v => ⟨fun hlt => ?inRange, fun hle => ?past⟩
  case inRange => rw [feedRow, rowIdx_of_lt p u v hlt, some_rowOf _ _ hlt]
  case past =>
    have hlast : lastRow p u < (tableOf p u).size := Nat.lt_succ_self _
    rw [feedRow, rowIdx_of_le p u v hle, some_rowOf _ _ hlast, List.getLast?_eq_getElem?]
    rfl

/-! ### The conditions in numbers -/

/-- The edit timeout is a difference of times modulo 2^32 (R162). -/
theorem timedOut_eq (limit : Nat) (t l : Word32) :
    timedOut limit t l = decide ((limit : Int) < ((t.toNat : Int) - (l.toNat : Int)) % 2 ^ 32) := by
  have hdiff : ((t - l).toNat : Int) = ((t.toNat : Int) - (l.toNat : Int)) % 2 ^ 32 := by
    rw [BitVec.toNat_sub]
    omega
  simp only [timedOut, ← hdiff, Nat.cast_lt]

/-- The flash phase is a bit of the sampled time (R180). -/
theorem flashDark_iff (bit : Nat) (t : Word32) : flashDark bit t = true ↔ t.toNat / 2 ^ bit % 2 = 1 := by
  rw [flashDark, BitVec.getLsbD, Nat.testBit_eq_decide_div_mod_eq, decide_eq_true_eq]

/-- The lit half is the other one (R180). -/
theorem flashDark_eq_false_iff (bit : Nat) (t : Word32) : flashDark bit t = false ↔ t.toNat / 2 ^ bit % 2 = 0 := by
  rw [← Bool.not_eq_true, flashDark_iff, Nat.mod_two_not_eq_one]

/-- The number of a click class, a thermometer code (R95). -/
theorem clickClass_toNat (quad : Nat) (c : Byte) : (clickClass quad c).toNat =
    (if quad < c.toNat then 4 else 0) + (if 2 ≤ c.toNat then 2 else 0) + (if 1 ≤ c.toNat then 1 else 0) := by
  simp only [clickClass, toNat_append_add, BitVec.toNat_ofBool, Bool.toNat, Bool.cond_decide, add_mul, ite_mul]
  rfl

/-- The number of a transition word `{f, st, cc, to}` (R94). -/
theorem uitWord_toNat (f : Bool) (st : UiState) (cc : BitVec 3) (tmo : Bool) : (uitWord f st cc tmo).toNat =
    64 * f.toNat + 16 * (uiCode st).toNat + 2 * cc.toNat + tmo.toNat := by
  simp only [uitWord, toNat_append_add, BitVec.toNat_ofBool]
  omega

/-! ### Table E4 -/

/-- Every transition word hits a row (R96). -/
theorem lookupRow_uitRows (w : BitVec 7) : lookupRow uitRows w = some (uitSelect w) := by
  revert w; decide

/-- The port `UIT` decodes a word to the row it selects (R94, R96). -/
theorem decode_uit (w : BitVec 7) : decode .uit (w.setWidth 24) = .ok (uitSelect w).instr := by
  have hfits : (w.setWidth 24).toNat < 2 ^ Port.uit.width := by
    rw [BitVec.toNat_setWidth]
    exact (Nat.mod_le _ _).trans_lt w.isLt
  have hword : (w.setWidth 24).setWidth 7 = w := by simp
  simp only [decode, hfits, if_true, decodeRow, hword, lookupRow_uitRows, Option.map_some]

/-- A word that hits a row selects that row: no word hits two (R96). -/
theorem uitSelect_of_hits : ∀ r ∈ uitRows, ∀ w : BitVec 7, r.hits w = true → uitSelect w = r.op := by decide

/-- Every row of the table is a row of Table E4 in the words of the statements. -/
theorem uitRow_of_mem {mask pat : BitVec 7} {op : UiOp} (h : ⟨mask, pat, op⟩ ∈ uitRows) :
    UitRow mask pat op.instr := by
  intro w hw
  have hop : uitSelect w = op := uitSelect_of_hits _ h w (beq_iff_eq.2 hw)
  rw [decode_uit, hop]

/-! ### The transition operations -/

/-- Settles O37: the rows are rows of Table E4, and the operations are their writes. -/
theorem faultTransitionsWriteTheState : Obligations.FaultTransitionsWriteTheState := by
  refine ⟨uitRow_of_mem (op := .faultEnterI) (by decide), uitRow_of_mem (op := .faultEnterU) (by decide),
    uitRow_of_mem (op := .faultEnterV) (by decide), uitRow_of_mem (op := .faultClear) (by decide),
    uitRow_of_mem (op := .faultHold) (by decide), fun s => ?_⟩
  have henter : execUiFaultEnterI s = .next { s with ui := { s.ui with state := .fault } } :=
    congrArg Host.Outcome.next (enterFault_eq s)
  exact ⟨henter, henter, henter, congrArg Host.Outcome.next (clearFault_eq s), rfl⟩

/-- Settles O39: the seed is the units index, widened to the register. -/
theorem editUnitsSeedsTheUnits : Obligations.EditUnitsSeedsTheUnits :=
  ⟨uitRow_of_mem (op := .editUnits) (by decide),
    fun s => ⟨editUnits s, rfl, BitVec.toNat_setWidth_of_le (by decide), rfl⟩⟩

/-- The seed stages the active value, clamped to the active units' table (R178). -/
theorem seedValue_pending_toNat (s : State) : (seedValue s).ui.pending.value.toNat =
    min s.ui.active.value.toNat (lastRow s.cfg s.ui.active.units) :=
  rowIdx_toNat _ _ _

/-- After the seed the register decodes to what is staged (R178). -/
theorem rotDecode_seedValue_rot (s : State) :
    rotDecode (seedValue s).input.rot = ((seedValue s).ui.pending.value, s.ui.active.reverse) :=
  rotDecode_rotEncode _ _

/-- Settles O40: the seed of the active selection. -/
theorem editValueSeedsTheValue : Obligations.EditValueSeedsTheValue :=
  ⟨uitRow_of_mem (op := .editValue) (by decide),
    fun s => ⟨editValue s, rfl, seedValue_pending_toNat s, rotDecode_seedValue_rot s, rfl⟩⟩

/-- The pending units, promoted (R172). -/
def promoteUnits (s : State) : State :=
  s.setUi { s.ui with active := { s.ui.active with units := s.ui.pending.units } }

/-- `UI.COMMIT_UNITS` is the promotion and then what `UI.EDIT_VALUE` does (R172). -/
theorem commitUnits_eq (s : State) : commitUnits s = editValue (promoteUnits s) := rfl

/-- Settles O41: the seed of the selection with the promoted units. -/
theorem commitUnitsPromotesTheUnits : Obligations.CommitUnitsPromotesTheUnits :=
  ⟨uitRow_of_mem (op := .commitUnits) (by decide),
    fun s => ⟨editValue (promoteUnits s), congrArg Host.Outcome.next (commitUnits_eq s),
      seedValue_pending_toNat (promoteUnits s), rotDecode_seedValue_rot (promoteUnits s), rfl⟩⟩

/-- Settles O42: the rows are rows of Table E4, and the operations are their writes. -/
theorem commitValueAndTimeout : Obligations.CommitValueAndTimeout :=
  ⟨uitRow_of_mem (op := .commitValue) (by decide), uitRow_of_mem (op := .timeoutU) (by decide),
    uitRow_of_mem (op := .timeoutV) (by decide),
    fun s => ⟨rfl, congrArg Host.Outcome.next (gotoUi_eq .idle s), congrArg Host.Outcome.next (gotoUi_eq .idle s)⟩⟩

/-! ### UI.SAMPLE and UI.ACTIVITY -/

/-- With nothing landing inside it `UI.SAMPLE` is its four reads (R164). -/
theorem uiSample_of_nil (s : State) (h : s.landings = []) :
    uiSample s = sampleFault (sampleTime (rotGet (caRead s))) := by
  have hClicks : (caRead s).landings = [] := h
  have hKnob : (rotGet (caRead s)).landings = [] := h
  have hTime : (sampleTime (rotGet (caRead s))).landings = [] := h
  simp only [uiSample, boundary_of_nil _ hClicks, boundary_of_nil _ hKnob, boundary_of_nil _ hTime]

/-- Settles O30: the four reads with what lands between them, and the two cases of `UI.ACTIVITY`. -/
theorem uiSampleAndActivity : Obligations.UiSampleAndActivity := by
  refine ⟨rfl, rfl, fun s => ⟨?ends, ?reads, ?quiet, ?unstamped, ?stamped⟩⟩
  case ends => exact ⟨uiSample s, rfl, uiSample_c s, uiSample_ui s, rfl⟩
  case reads =>
    exact ⟨caRead s, boundary (caRead s), _, boundary _, boundary _, rfl, boundary_spec _, rfl, boundary_spec _,
      boundary_spec (sampleTime _), rfl⟩
  case quiet => exact fun h => congrArg Host.Outcome.next (uiSample_of_nil s h)
  case unstamped =>
    rintro ⟨hc, hr⟩
    rcases uiActivity_cases s with ⟨h, -⟩ | ⟨-, h⟩
    · simp [hc, hr] at h
    · exact congrArg Host.Outcome.next h
  case stamped =>
    intro hact
    rcases uiActivity_cases s with ⟨-, h⟩ | ⟨⟨hc, hr⟩, -⟩
    · exact congrArg Host.Outcome.next h
    · simp [hc, hr] at hact

/-! ### UI.DECODE -/

@[simp] theorem uiDecode_ui (s : State) : (uiDecode s).ui = s.ui := rfl

/-- Settles O31: the word is the number of its fields, and the row it selects is the one of Table T. -/
theorem uiDecodePicksTheRowOfTableT : Obligations.UiDecodePicksTheRowOfTableT := by
  refine ⟨rfl, rfl, rfl, fun s => ⟨uiDecode s, rfl, rfl, ?word, ?row⟩⟩
  case row => rw [uiDecode_op, timedOut_eq]; rfl
  case word =>
    have hf : 64 * (latched s.ul.fs).toNat = if s.ul.fs = .none then 0 else 64 := by cases s.ul.fs <;> rfl
    change (cycleWord s).toNat = _
    rw [cycleWord, uitWord_toNat, clickClass_toNat, timedOut_eq, hf, Bool.toNat, Bool.cond_decide]
    simp only [mul_add, mul_ite, Nat.reduceMul, add_assoc]

/-! ### UI.PEND -/

theorem uiPend_of_not_edit (s : State) (h : entersFault s.ul.op = true ∨ s.ul.st = .idle ∨ s.ul.st = .fault) :
    uiPend s = s := by
  unfold uiPend
  rcases h with h | h | h <;> simp [h]

theorem uiPend_of_changeUnits (s : State) (hop : entersFault s.ul.op = false) (hst : s.ul.st = .changeUnits) :
    uiPend s = pendUnits s := by
  simp [uiPend, hop, hst]

theorem uiPend_of_changeValue (s : State) (hop : entersFault s.ul.op = false) (hst : s.ul.st = .changeValue) :
    uiPend s = pendValue s := by
  simp [uiPend, hop, hst]

/-- A number that fits a word is the word's. -/
theorem toNat_ofInt_of_lt {w : Nat} {v : Int} (h0 : 0 ≤ v) (h : v < 2 ^ w) :
    ((BitVec.ofInt w v).toNat : Int) = v := by
  rw [BitVec.toNat_ofInt]
  push_cast
  rw [Int.emod_eq_of_lt h0 h, Int.toNat_of_nonneg h0]

/-- `UNITS_MIN` and `UNITS_MAX` of Table P (R165). -/
theorem clampUnits_of_fixedOk (p : Params) (h : p.fixedOk = true) (r : Word16) :
    clampUnits p.unitsMin p.unitsMax r = max 0 (min r.toInt 3) := by
  obtain ⟨-, -, -, hmin, hmax, -⟩ := (fixedOk_iff p).1 h
  rw [clampUnits, hmin, hmax]

/-- The staged units, and the knob moved exactly when the clamp changed the register value `r` to `v` (R165). -/
theorem pendUnits_cases (s : State) (v : Int) (hv : clampUnits s.cfg.unitsMin s.cfg.unitsMax s.ul.r = v) :
    (v = s.ul.r.toInt ∧
      pendUnits s = s.setUi { s.ui with pending := { s.ui.pending with units := BitVec.ofInt 2 v } }) ∨
    (v ≠ s.ul.r.toInt ∧ pendUnits s = (placeKnob (BitVec.ofInt 16 v) s).setUi { s.ui with
      lastRot := BitVec.ofInt 16 v, pending := { s.ui.pending with units := BitVec.ofInt 2 v } }) := by
  by_cases h : v = s.ul.r.toInt
  · exact .inl ⟨h, by simp [pendUnits, hv, h]⟩
  · exact .inr ⟨h, by simp [pendUnits, hv, h]; rfl⟩

/-- The staged value and direction, and the knob moved exactly when the decoded magnitude `m` is past the last row `n`
(R165). -/
theorem pendValue_cases (s : State) (n : Nat) (m : RowIndex) (rev : Bool)
    (hn : lastRow s.cfg s.ui.active.units = n) (hd : rotDecode s.ul.r = (m, rev)) :
    (m.toNat ≤ n ∧
      pendValue s = s.setUi { s.ui with pending := { s.ui.pending with value := m, reverse := rev } }) ∨
    (n < m.toNat ∧ pendValue s = (placeKnob (rotEncode (BitVec.ofNat 15 n) rev) s).setUi { s.ui with
      lastRot := rotEncode (BitVec.ofNat 15 n) rev
      pending := { s.ui.pending with value := BitVec.ofNat 15 n, reverse := rev } }) := by
  by_cases h : n < m.toNat
  · exact .inr ⟨h, by simp [pendValue, hn, hd, h]; rfl⟩
  · exact .inl ⟨by omega, by simp [pendValue, hn, hd, h]⟩

/-- Settles O32: the cases of `UI.PEND`, and in each edit state whether the clamp changed the value. -/
theorem uiPendStagesTheKnob : Obligations.UiPendStagesTheKnob := by
  refine ⟨rfl, fun s => ⟨?skipped, ?units, ?value⟩⟩
  case skipped => exact fun h => congrArg Host.Outcome.next (uiPend_of_not_edit s h)
  case units =>
    intro hop hst hfixed
    refine ⟨_, congrArg Host.Outcome.next (uiPend_of_changeUnits s hop hst), ?_⟩
    obtain ⟨v, hv⟩ : ∃ v, v = max 0 (min s.ul.r.toInt 3) := ⟨_, rfl⟩
    have hunits : ((BitVec.ofInt 2 v).toNat : Int) = v := toNat_ofInt_of_lt (by omega) (by omega)
    rcases pendUnits_cases s v ((clampUnits_of_fixedOk _ hfixed _).trans hv.symm) with ⟨hr, h⟩ | ⟨hr, h⟩
    · rw [h, if_pos (by omega)]
      exact ⟨hunits.trans hv, rfl⟩
    · have hknob : ((BitVec.ofInt 16 v).toNat : Int) = v := toNat_ofInt_of_lt (by omega) (by omega)
      rw [h, if_neg (by omega)]
      exact ⟨hunits.trans hv, rfl, Int.ofNat_inj.1 (hknob.trans hunits.symm)⟩
  case value =>
    intro hop hst
    refine ⟨_, congrArg Host.Outcome.next (uiPend_of_changeValue s hop hst), ?_⟩
    obtain ⟨n, hn⟩ : ∃ n, lastRow s.cfg s.ui.active.units = n := ⟨_, rfl⟩
    obtain ⟨m, rev, hd⟩ : ∃ m rev, rotDecode s.ul.r = (m, rev) := ⟨_, _, rfl⟩
    have hmag := rotDecode_fst_toNat s.ul.r
    have hsign := rotDecode_snd_iff s.ul.r
    rw [hd] at hmag hsign
    rw [← hmag, hn]
    rcases pendValue_cases s n m rev hn hd with ⟨hm, h⟩ | ⟨hm, h⟩
    · rw [h, if_pos (Nat.cast_le.2 hm)]
      exact ⟨hsign, (min_eq_left (Nat.cast_le.2 hm)).symm, rfl⟩
    · have hlast : (BitVec.ofNat 15 n).toNat = n := by
        rw [BitVec.toNat_ofNat, Nat.mod_eq_of_lt (hm.trans m.isLt)]
      have hknob := rotEncode_toInt (BitVec.ofNat 15 n) rev
      simp only [hlast, hsign] at hknob
      rw [h, if_neg (by simpa using hm), min_eq_right (Nat.cast_le.2 hm.le)]
      exact ⟨hsign, congrArg Nat.cast hlast, rfl, hknob⟩

/-! ### UI.RENDER -/

@[simp] theorem picture_led (s : State) : (picture s).led = ledOf s := by
  unfold picture
  repeat' split
  all_goals rfl

/-- The LED of a units index (R106). -/
theorem ledMask_toNat (u : Units) : (ledMask u).toNat = 2 ^ u.toNat := by
  revert u; decide

/-- The LED is that of the displayed units, dark in the dark half of ChangeUnits (R184). -/
theorem ledOf_toNat (s : State) : (ledOf s).toNat =
    if s.ui.state = .changeUnits ∧ s.ul.t.toNat / 2 ^ s.cfg.flashBit % 2 = 1 then 0
    else 2 ^ (displayUnits s).toNat := by
  simp only [ledOf, flashDark_iff]
  split
  · rfl
  · exact ledMask_toNat _

/-- Idle and ChangeUnits show the active row of the displayed units (R183). -/
theorem picture_of_active (s : State) (h : s.ui.state = .idle ∨ s.ui.state = .changeUnits) : picture s =
    rowPicture s.cfg.glyphs s.ui.active.reverse (feedRow s.cfg (displayUnits s) s.ui.active.value) (ledOf s) := by
  unfold picture
  rcases h with h | h <;> rw [h]

/-- ChangeValue shows the pending row in the lit half (R182). -/
theorem picture_of_pending (s : State) (h : s.ui.state = .changeValue)
    (hlit : flashDark s.cfg.flashBit s.ul.t = false) :
    picture s = rowPicture s.cfg.glyphs s.ui.pending.reverse
      (feedRow s.cfg s.ui.active.units s.ui.pending.value) (ledOf s) := by
  simp [picture, h, hlit]

/-- Fault shows its code in the lit half (R181). -/
theorem picture_of_fault (s : State) (h : s.ui.state = .fault) (hlit : flashDark s.cfg.flashBit s.ul.t = false) :
    picture s = faultPicture s.cfg.glyphs s.ul.fs (ledOf s) := by
  simp [picture, h, hlit]

/-- ChangeValue and Fault show blanks in the dark half (R181, R182). -/
theorem picture_of_dark (s : State) (h : s.ui.state = .changeValue ∨ s.ui.state = .fault)
    (hdark : flashDark s.cfg.flashBit s.ul.t = true) : picture s = blankPicture s.cfg.glyphs (ledOf s) := by
  rcases h with h | h <;> simp [picture, h, hdark]

/-- `UI.RENDER` is five writes with a boundary between any two (R61, R185). -/
theorem uiRender_interleaved (s : State) : Interleaved
    [.dspWrite 3#3 (picture s).d3, .dspWrite 2#3 (picture s).d2, .dspWrite 1#3 (picture s).d1,
      .dspWrite 0#3 (picture s).d0, .dspWrite 4#3 (picture s).led] s (uiRender s) := by
  iterate 4 refine interleaved_cons rfl ?_
  rfl

/-- Settles O34: the five writes with what lands between them, and the picture in each state and flash half. -/
theorem uiRenderWritesTheDisplay : Obligations.UiRenderWritesTheDisplay := by
  refine ⟨rfl, rfl, fun s => ⟨uiRender s, (picture s).d3, (picture s).d2, (picture s).d1, (picture s).d0,
    (picture s).led, rfl, uiRender_ui s, uiRender_ul s, uiRender_interleaved s, ?quiet, ?active, ?pending, ?fault,
    ?dark⟩⟩
  case quiet =>
    intro h
    simp [uiRender_of_nil s h, sendDisplay_eq, Display.write_eq]
  case active =>
    intro u hu
    obtain rfl : u = displayUnits s := hu
    refine ⟨?led, fun hst => ?digits⟩
    case led => rw [picture_led, ledOf_toNat]
    case digits => rw [picture_of_active s hst]; exact ⟨rfl, rfl, rfl, rfl⟩
  case pending =>
    intro hst hlit
    rw [picture_of_pending s hst ((flashDark_eq_false_iff _ _).2 hlit)]
    exact ⟨rfl, rfl, rfl, rfl⟩
  case fault =>
    intro hst hlit
    rw [picture_of_fault s hst ((flashDark_eq_false_iff _ _).2 hlit)]
    refine ⟨rfl, rfl, rfl, ?_⟩
    rw [faultPicture]
    cases s.ul.fs <;> rfl
  case dark =>
    intro hst hdark
    rw [picture_of_dark s hst ((flashDark_iff _ _).2 hdark)]
    exact ⟨rfl, rfl, rfl, rfl⟩

/-! ### UI.OUTPUT -/

/-- What is ahead next lands, and the rest stays ahead. -/
theorem boundary_of_cons (s : State) (here : List Interrupt) (later : List (List Interrupt))
    (h : s.landings = here :: later) : boundary s = landAll here (s.setLandings later) := by
  simp only [boundary, h]

/-- The direction that `UI.OUTPUT` writes last is the active selection's at its start: no landing changes it (R186). -/
theorem uiOutput_eq (s : State) : uiOutput s = (boundary (outputRatio s)).setShared
    { (boundary (outputRatio s)).shared with reverse := s.ui.active.reverse } := by
  rw [uiOutput, outputReverse, boundary_ui, outputRatio, State.setShared_ui]

/-- `UI.OUTPUT` with something ahead: it lands between the two writes (R71, R186). -/
theorem uiOutput_of_cons (s : State) (here : List Interrupt) (later : List (List Interrupt))
    (h : s.landings = here :: later) :
    uiOutput s = (landAll here ((outputRatio s).setLandings later)).setShared
      { (landAll here ((outputRatio s).setLandings later)).shared with reverse := s.ui.active.reverse } := by
  rw [uiOutput_eq, boundary_of_cons (outputRatio s) here later h]

/-- A `TICK` samples the pair that is there when it starts (R130). -/
theorem tick_sampled_pair (s : State) : (tick s).tl.rs = s.shared.ratio ∧ (tick s).tl.rv = s.shared.reverse := by
  simp [tick, synSteps, synTarget, synFilter, synDelta, synSample]

/-- Settles O36: the two writes, with what is ahead between them. -/
theorem uiOutputWritesTheCommittedPair : Obligations.UiOutputWritesTheCommittedPair := by
  refine ⟨rfl, fun s ratio hratio => ?_⟩
  subst hratio
  refine ⟨?ends, ?quiet, ?landed, ?torn⟩
  case ends => exact ⟨uiOutput s, rfl, uiOutput_ui s, uiOutput_ratio s, uiOutput_reverse s⟩
  case quiet => exact fun h => congrArg Host.Outcome.next (uiOutput_of_nil s h)
  case landed =>
    exact fun here later h => ⟨_, landAll_landed here ((outputRatio s).setLandings later),
      congrArg Host.Outcome.next (uiOutput_of_cons s here later h)⟩
  case torn =>
    intro x later h
    obtain ⟨hrs, hrv⟩ := tick_sampled_pair (present x ((outputRatio s).setLandings later))
    exact ⟨_, rfl, hrs, hrv, congrArg Host.Outcome.next (uiOutput_of_cons s [.tick x] later h)⟩

/-! ### The edit timeout -/

/-- In an edit state with no fault and no click only the timeout does something, and that is the return to Idle
(R174, R187). -/
theorem performOp_of_edit_without_click (quad : Nat) (st : UiState) (tmo : Bool) (s : State)
    (h : st = .changeUnits ∨ st = .changeValue) :
    performOp (tableT quad st false 0 tmo) s = if tmo = true then gotoUi .idle s else s := by
  rcases h with rfl | rfl <;> cases tmo <;> rfl

/-- The UI context after a cycle is the one its `UI.TRANS` leaves: the phases after it do not write it. -/
theorem uicyc_ui (s : State) : (uicyc s).ui = (performOp (beforeTrans s).ul.op (beforeTrans s)).ui := by
  simp [uicyc_eq_beforeTrans, uiTrans]

theorem beforeTrans_state (s : State) : (beforeTrans s).ui.state = s.ui.state := by simp [beforeTrans]

theorem beforeTrans_active (s : State) : (beforeTrans s).ui.active = s.ui.active := by simp [beforeTrans]

/-- With nothing ahead, no click and the knob where it was, a cycle stamps no activity. -/
theorem uiActivity_uiSample_of_quiet (s : State) (hl : s.landings = []) (hc : s.input.clicksOut = 0#8)
    (hr : s.input.rot = s.ui.lastRot) : uiActivity (uiSample s) = uiSample s := by
  rcases uiActivity_cases (uiSample s) with ⟨h, -⟩ | ⟨-, h⟩
  · rw [uiSample_of_nil s hl] at h
    rcases h with h | h
    · exact absurd hc h
    · exact absurd hr h
  · exact h

/-- The state in which such a cycle performs its `UI.TRANS`. -/
theorem beforeTrans_of_quiet (s : State) (hl : s.landings = []) (hc : s.input.clicksOut = 0#8)
    (hr : s.input.rot = s.ui.lastRot) : beforeTrans s = uiPend (uiDecode (uiSample s)) := by
  have hSample : (uiSample s).landings = [] := uiSample_landings_of_nil s hl
  have hDecode : (uiDecode (uiSample s)).landings = [] := hSample
  have hPend : (uiPend (uiDecode (uiSample s))).landings = [] := by rwa [uiPend_landings]
  rw [beforeTrans, boundary_of_nil _ hSample, uiActivity_uiSample_of_quiet s hl hc hr, boundary_of_nil _ hSample,
    boundary_of_nil _ hDecode, boundary_of_nil _ hPend]

/-- Settles O46: a cycle without activity picks the timeout row exactly after the timeout, and that row writes only the
state. -/
theorem editTimesOutAfterIdleTicks : Obligations.EditTimesOutAfterIdleTicks := by
  refine ⟨rfl, fun s hl hst hf hc hr => ⟨uicyc s, rfl, ?_⟩⟩
  have hbefore := beforeTrans_of_quiet s hl hc hr
  have hactivity : (beforeTrans s).ui.lastActivity = s.ui.lastActivity := by
    simp [hbefore]
  have hop : (beforeTrans s).ul.op =
      tableT s.cfg.quad s.ui.state false 0 (timedOut s.cfg.editTimeout s.tickCount s.ui.lastActivity) := by
    rw [hbefore, uiPend_ul, uiDecode_op, uiSample_of_nil s hl]
    simp [sampleFault, sampleTime, rotGet, caRead, hf, hc, latched]
  rw [uicyc_ui, hop, performOp_of_edit_without_click _ _ _ _ hst, timedOut_eq]
  simp only [decide_eq_true_eq]
  split
  · exact ⟨beforeTrans_active s, hactivity, rfl⟩
  · exact ⟨beforeTrans_active s, hactivity, beforeTrans_state s⟩

end Sys2Proof.Machine
end

section
/-! PROOF. The input conditioning units (42_input_conditioning.md R211, R212, R221): one sample of the counter debounce
that both units share, what aggregation does with it, and the two sampling instructions. -/

namespace Sys2Proof.Machine

/-! ### The counter debounce -/

/-- The level changes on the differing sample that completes the window (R211, R221). -/
theorem debounce_level (window : Nat) (level : Bool) (run : Nat) (b : Bool) :
    (debounce window level run b).1 = if b ≠ level ∧ window ≤ run + 1 then b else level := by
  rcases debounce_cases window level run b with ⟨hb, h⟩ | ⟨hb, hw, h⟩ | ⟨-, hw, h⟩ <;> rw [h]
  · exact (if_neg fun hc => hc.1 hb).symm
  · exact (if_pos ⟨hb, hw⟩).symm
  · exact (if_neg fun hc => Nat.not_le.mpr hw hc.2).symm

/-- The run restarts on an equal sample and on a change, and else grows (R211, R221). -/
theorem debounce_run (window : Nat) (level : Bool) (run : Nat) (b : Bool) :
    (debounce window level run b).2 = if b = level ∨ window ≤ run + 1 then 0 else run + 1 := by
  rcases debounce_cases window level run b with ⟨hb, h⟩ | ⟨-, hw, h⟩ | ⟨hb, hw, h⟩ <;> rw [h]
  · exact (if_pos (.inl hb)).symm
  · exact (if_pos (.inr hw)).symm
  · exact (if_neg (not_or.mpr ⟨hb, Nat.not_le.mpr hw⟩)).symm

/-- A counter that can hold a value shows it. -/
theorem toNat_ofNat_of_lt {width n : Nat} (h : n < 2 ^ width) : (BitVec.ofNat width n).toNat = n :=
  (BitVec.toNat_ofNat n width).trans (Nat.mod_eq_of_lt h)

/-- A run never reaches its window, so a counter that can hold the window holds every run. -/
theorem debounce_run_lt {window : Nat} (h : 1 ≤ window) (level : Bool) (run : Nat) (b : Bool) :
    (debounce window level run b).2 < window := by
  rw [debounce_run]
  split <;> omega

theorem toNat_ofNat_debounce_run {window width : Nat} (h : 1 ≤ window) (hfits : window ≤ 2 ^ width) (level : Bool)
    (run : Nat) (b : Bool) :
    (BitVec.ofNat width (debounce window level run b).2).toNat =
      if b = level ∨ window ≤ run + 1 then 0 else run + 1 := by
  have hlt := debounce_run_lt h level run b
  rw [toNat_ofNat_of_lt (by omega), debounce_run]

/-! ### Click aggregation, an equation per case of R212 -/

theorem aggregate_click (window : Nat) (x : InputUnit) : aggregate window true x =
    { x with burstCnt := BitVec.ofNat 8 (min (x.burstCnt.toNat + 1) 255), burstAge := 0#8 } := rfl

theorem aggregate_idle (window : Nat) (x : InputUnit) (h : x.burstCnt = 0#8) : aggregate window false x = x := by
  simp [aggregate, h]

theorem aggregate_age (window : Nat) (x : InputUnit) (h : x.burstCnt ≠ 0#8) (hlt : x.burstAge.toNat + 1 < window) :
    aggregate window false x = { x with burstAge := BitVec.ofNat 8 (x.burstAge.toNat + 1) } := by
  simp [aggregate, h, Nat.not_le.mpr hlt]

theorem aggregate_close (window : Nat) (x : InputUnit) (h : x.burstCnt ≠ 0#8) (hle : window ≤ x.burstAge.toNat + 1) :
    aggregate window false x = { x with clicksOut := x.burstCnt, burstCnt := 0#8, burstAge := 0#8 } := by
  simp [aggregate, h, hle]

/-! ### CA.SAMPLE -/

/-- The button unit between the two parts of `CA.SAMPLE`. -/
def debouncedInput (b : Bool) (s : State) : InputUnit :=
  { s.input with
    btnLevel := (debounce s.cfg.debounceTicks s.input.btnLevel s.input.btnRun.toNat b).1
    btnRun := BitVec.ofNat 6 (debounce s.cfg.debounceTicks s.input.btnLevel s.input.btnRun.toNat b).2 }

/-- A click is a rise of the debounced level (R211). -/
theorem caSample_input (b : Bool) (s : State) : (caSample b s).input =
    aggregate s.cfg.aggTicks (!s.input.btnLevel && (debouncedInput b s).btnLevel) (debouncedInput b s) := rfl

theorem caSample_btnLevel (b : Bool) (s : State) :
    (caSample b s).input.btnLevel = (debouncedInput b s).btnLevel := by rw [caSample_input, aggregate_btnLevel]

theorem caSample_btnRun (b : Bool) (s : State) :
    (caSample b s).input.btnRun = (debouncedInput b s).btnRun := by rw [caSample_input, aggregate_btnRun]

theorem caSample_input_of_click {b : Bool} {s : State} (hlow : s.input.btnLevel = false)
    (hhigh : (caSample b s).input.btnLevel = true) :
    (caSample b s).input = aggregate s.cfg.aggTicks true (debouncedInput b s) := by
  rw [caSample_btnLevel] at hhigh
  rw [caSample_input, hlow, hhigh]
  rfl

theorem caSample_input_of_no_click {b : Bool} {s : State}
    (h : s.input.btnLevel = true ∨ (caSample b s).input.btnLevel = false) :
    (caSample b s).input = aggregate s.cfg.aggTicks false (debouncedInput b s) := by
  rw [caSample_btnLevel] at h
  rw [caSample_input]
  rcases h with h | h <;> simp [h]

/-- Settles O52: the level and the run are the debounce's, and each clause of the burst is one equation of the
aggregation, in whose range neither of the two counters wraps. -/
theorem clickSampleDebouncesAndAggregates : Obligations.ClickSampleDebouncesAndAggregates := by
  intro s b hwin
  obtain ⟨hd, hd', -, ha', -, -⟩ := (windowsOk_iff s.cfg).mp hwin
  refine ⟨caSample b s, rfl, caSample_eq b s, by cases b <;> rfl, ?level, ?run, fun hlow hhigh => ?click,
    fun hno => ⟨fun hcnt => ?idle, fun hcnt hlt => ?age, fun hcnt hle => ?close⟩⟩
  case level => exact (caSample_btnLevel b s).trans (debounce_level _ _ _ _)
  case run =>
    rw [caSample_btnRun]
    exact toNat_ofNat_debounce_run hd (by omega) _ _ _
  case click =>
    rw [caSample_input_of_click hlow hhigh, aggregate_click]
    exact ⟨toNat_ofNat_of_lt (by omega), rfl, rfl⟩
  case idle =>
    rw [caSample_input_of_no_click hno, aggregate_idle _ (debouncedInput b s) hcnt]
    exact ⟨hcnt, rfl, rfl⟩
  case age =>
    rw [caSample_input_of_no_click hno, aggregate_age _ (debouncedInput b s) hcnt hlt]
    have hfits : s.input.burstAge.toNat + 1 < 2 ^ 8 := by omega
    exact ⟨rfl, toNat_ofNat_of_lt hfits, rfl⟩
  case close =>
    rw [caSample_input_of_no_click hno, aggregate_close _ (debouncedInput b s) hcnt hle]
    exact ⟨rfl, rfl, rfl⟩

/-! ### AL.SAMPLE -/

/-- Settles O55: both registers are the debounce's, and the run fits its counter. -/
theorem alarmSampleDebounces : Obligations.AlarmSampleDebounces := by
  intro s a hwin
  obtain ⟨-, -, -, -, hw, hw'⟩ := (windowsOk_iff s.cfg).mp hwin
  refine ⟨alSample a s, rfl, rfl, by cases a <;> rfl, ?level, ?run⟩ <;> rw [alSample_eq]
  case level => exact debounce_level _ _ _ _
  case run => exact toNat_ofNat_debounce_run hw (by omega) _ _ _

end Sys2Proof.Machine
end

section
/-! PROOF. `RESET` (70_reset_and_hazards.md R290, R291): the words that are it, and the groups it sets. -/

namespace Sys2Proof.Machine

/-! ### The event vectors with `rst` set -/

/-- `rst` is the top bit of the vector, and the row it hits stands first (R91). -/
theorem lookupRow_evRows_of_rst : ∀ v : BitVec 3, 4 ≤ v.toNat → lookupRow evRows v = some .reset := by decide

/-- A word in the width of `EV` with `rst` set is `RESET`, whatever is presented with it (R91, R290). -/
theorem decode_ev_of_rst {w : PortWord} (hrst : 4 ≤ w.toNat) (hfits : w.toNat < 8) :
    decode .ev w = .ok .reset := by
  have hvec : (w.setWidth 3).toNat = w.toNat := by
    rw [BitVec.toNat_setWidth, Nat.mod_eq_of_lt hfits]
  have hwidth : w.toNat < 2 ^ Port.ev.width := hfits
  simp only [decode, hwidth, if_true, decodeRow, lookupRow_evRows_of_rst (w.setWidth 3) (hvec ▸ hrst)]

/-! ### The block after `RESET` -/

/-- The servo position is the baseline at the default row's ratio (R20, R290). -/
theorem resetBlock_servoPos_toNat (s : State) : (resetBlock s).sync.servoPos.toNat =
    s.cfg.bias.toNat * (resetBlock s).shared.ratio.toNat / 65536 % 2 ^ 32 :=
  fxmul_toNat s.cfg.bias (selectedRow s.cfg s.cfg.defaults).ratio

/-- Settles O7: each group is its reset column as `resetBlock` writes it, and the servo position is the fixed-point
product of the baseline and `ratio_reset`. -/
theorem resetSetsEveryElement : Obligations.ResetSetsEveryElement := by
  refine ⟨rfl, fun w => decode_ev_of_rst, fun s =>
    ⟨resetBlock s, rfl, ?frame, ?sync, resetBlock_servoPos_toNat s, ?shared, ?ui, ?input, ?alarm⟩⟩
  case frame => rfl
  case sync => rfl
  case shared => rfl
  case ui => rfl
  case input => rfl
  case alarm => rfl

end Sys2Proof.Machine
end

section
/-! PROOF. The words of the ports (30_encoding.md Tables E0 to E6): what each port's table can answer, read off as
numbers, and from it that decoding and encoding agree, which words are reserved, and what a step does with a presented word. -/

namespace Sys2Proof

/-! ### The decoder of a port -/

/-- A port decodes the words of its width that its table has a row for. -/
theorem decode_eq_ok_iff (p : Port) (w : PortWord) (i : Instr) :
    decode p w = .ok i ↔ w.toNat < 2 ^ p.width ∧ decodeRow p w = some i := by
  unfold decode
  by_cases hfits : w.toNat < 2 ^ p.width
  · cases decodeRow p w <;> simp [hfits]
  · simp [hfits]

/-- It rejects as reserved the words of its width with no row. -/
theorem decode_eq_reserved_iff (p : Port) (w : PortWord) (hfits : w.toNat < 2 ^ p.width) :
    decode p w = .error (.reserved p) ↔ decodeRow p w = none := by
  unfold decode
  cases decodeRow p w <;> simp [hfits]

/-- A word with a bit above the format is too wide on every port (Table E0). -/
theorem decode_of_tooWide (p : Port) (w : PortWord) (hwide : 2 ^ p.width ≤ w.toNat) :
    decode p w = .error (.tooWide p) := by
  rw [decode, if_neg (Nat.not_lt.2 hwide)]

/-- A word that fits a format keeps its number in it. -/
theorem setWidth_toNat_of_lt {n : Nat} {w : PortWord} (hfits : w.toNat < 2 ^ n) : (w.setWidth n).toNat = w.toNat := by
  rw [BitVec.toNat_setWidth, Nat.mod_eq_of_lt hfits]

/-! ### Tables of mask and match words -/

/-- What a table answers stands in one of its rows, and the word hits that row. -/
theorem exists_row_of_lookupRow {n : Nat} {α : Type} {rows : List (MaskRow n α)} {w : BitVec n} {x : α}
    (h : lookupRow rows w = some x) : ∃ r ∈ rows, w &&& r.mask = r.pat ∧ r.op = x := by
  obtain ⟨r, hr, hop⟩ := Option.map_eq_some_iff.1 h
  have hhit := List.find?_some (p := fun r : MaskRow n α => r.hits w) hr
  exact ⟨r, List.mem_of_find?_eq_some hr, beq_iff_eq.1 hhit, hop⟩

/-- Every row of `TICKSEQ` matches one word, the code of its instruction (Table E2). -/
theorem tickSeqRows_exact : ∀ r ∈ tickSeqRows, r.mask = BitVec.allOnes 4 ∧ r.op.port = .tickSeq ∧
    r.op.wellFormed = true ∧ encode r.op = r.pat.setWidth 24 := by decide

/-- Every row of `UISEQ` matches one word, the code of its instruction (Table E3). -/
theorem uiSeqRows_exact : ∀ r ∈ uiSeqRows, r.mask = BitVec.allOnes 3 ∧ r.op.port = .uiSeq ∧
    r.op.wellFormed = true ∧ encode r.op = r.pat.setWidth 24 := by decide

theorem evRows_port : ∀ r ∈ evRows, r.op.port = .ev ∧ r.op.wellFormed = true := by decide

theorem uiOp_instr_port (x : UiOp) : x.instr.port = .uit ∧ x.instr.wellFormed = true := by
  cases x <;> decide

/-- The word of an exact row is the word presented. -/
theorem encode_of_exact_row {n : Nat} {w : PortWord} {r : MaskRow n Instr} (hn : n ≤ 24) (hfits : w.toNat < 2 ^ n)
    (hmask : r.mask = BitVec.allOnes n) (hhit : w.setWidth n &&& r.mask = r.pat)
    (hcode : encode r.op = r.pat.setWidth 24) : encode r.op = w := by
  rw [hmask, BitVec.and_allOnes] at hhit
  apply BitVec.eq_of_toNat_eq
  rw [hcode, ← hhit, BitVec.toNat_setWidth_of_le hn, setWidth_toNat_of_lt hfits]

/-! ### The actuator, the display and the knob, in numbers -/

/-- The `op` and `arg` fields of an actuator word, as numbers (Table E5). -/
theorem act_fields (w : BitVec 10) :
    (w.extractLsb' 8 2).toNat = w.toNat / 256 ∧ (w.extractLsb' 0 8).toNat = w.toNat % 256 := by
  have hw := w.isLt
  rw [BitVec.extractLsb'_toNat, BitVec.extractLsb'_toNat, Nat.shiftRight_eq_div_pow]
  omega

/-- A one-bit field is its bit 0. -/
theorem toNat_getLsbD_zero {n : Nat} {x : BitVec n} (h : x.toNat < 2) : (x.getLsbD 0).toNat = x.toNat := by
  rw [BitVec.getLsbD, Nat.testBit_zero]
  have : x.toNat = 0 ∨ x.toNat = 1 := by omega
  rcases this with h | h <;> simp [h]

/-- Table E5: the words with a row, and the words the block never emits (R97). -/
theorem decodeAct_cases (w : BitVec 10) :
    (w.toNat = 0 ∧ decodeAct w = some .actNone) ∨ (w.toNat = 256 ∧ decodeAct w = some .actStop) ∨
    (∃ d : Bool, w.toNat = 512 + d.toNat ∧ decodeAct w = some (.actDir d)) ∨
    (∃ n : Byte, n ≠ 0#8 ∧ w.toNat = 768 + n.toNat ∧ decodeAct w = some (.actStep n)) ∨
    (((w.toNat / 256 ≤ 1 ∧ w.toNat % 256 ≠ 0) ∨ (w.toNat / 256 = 2 ∧ 2 ≤ w.toNat % 256) ∨ w.toNat = 768) ∧
      decodeAct w = none) := by
  have hw := w.isLt
  obtain ⟨hop, harg⟩ := act_fields w
  unfold decodeAct
  generalize w.extractLsb' 8 2 = op at *
  generalize w.extractLsb' 0 8 = arg at *
  have hzero : arg = 0#8 ↔ w.toNat % 256 = 0 := by rw [← harg, BitVec.toNat_eq]; rfl
  have hops : ∀ x : BitVec 2, x = 0#2 ∨ x = 1#2 ∨ x = 2#2 ∨ x = 3#2 := by decide
  obtain rfl | rfl | rfl | rfl := hops op
  all_goals simp only [BitVec.toNat_ofNat] at hop
  · by_cases h : arg = 0#8
    · have := hzero.1 h
      exact .inl ⟨by omega, by simp [h]⟩
    · exact .inr <| .inr <| .inr <| .inr ⟨.inl ⟨by omega, mt hzero.2 h⟩, by simp [h]⟩
  · by_cases h : arg = 0#8
    · have := hzero.1 h
      exact .inr <| .inl ⟨by omega, by simp [h]⟩
    · exact .inr <| .inr <| .inr <| .inr ⟨.inl ⟨by omega, mt hzero.2 h⟩, by simp [h]⟩
  · by_cases h : arg.toNat < 2
    · exact .inr <| .inr <| .inl ⟨arg.getLsbD 0, by rw [toNat_getLsbD_zero h]; omega, by simp [h]⟩
    · exact .inr <| .inr <| .inr <| .inr ⟨.inr <| .inl ⟨by omega, by omega⟩, by simp [h]⟩
  · by_cases h : arg = 0#8
    · have := hzero.1 h
      exact .inr <| .inr <| .inr <| .inr ⟨.inr <| .inr (by omega), by simp [h]⟩
    · exact .inr <| .inr <| .inr <| .inl ⟨arg, h, by omega, by simp [h]⟩

/-- `DSP.WRITE` of Table E6: registers 0 to 4, the others reserved (R98, R108). -/
theorem decodeDsp_cases (w : BitVec 11) :
    (∃ (r : BitVec 3) (v : Byte), r.toNat ≤ 4 ∧ w.toNat = r.toNat * 256 + v.toNat ∧
      decodeDsp w = some (.dspWrite r v)) ∨
    (5 ≤ w.toNat / 256 ∧ decodeDsp w = none) := by
  have hw := w.isLt
  have hreg : (w.extractLsb' 8 3).toNat = w.toNat / 256 := by
    rw [BitVec.extractLsb'_toNat, Nat.shiftRight_eq_div_pow]; omega
  have hval : (w.extractLsb' 0 8).toNat = w.toNat % 256 := BitVec.extractLsb'_toNat _ _ _
  by_cases h : (w.extractLsb' 8 3).toNat ≤ 4
  · exact .inl ⟨w.extractLsb' 8 3, w.extractLsb' 0 8, h, by omega, by simp only [decodeDsp, h, if_true]⟩
  · exact .inr ⟨by omega, by simp only [decodeDsp, h, if_false]⟩

/-- `ROT.GET` and `ROT.SET` of Table E6: the write enable is bit 16 (R98). -/
theorem decodeRot_cases (w : BitVec 17) :
    (w.toNat < 65536 ∧ decodeRot w = .rotGet) ∨
    (∃ v : Word16, w.toNat = 65536 + v.toNat ∧ decodeRot w = .rotSet v) := by
  have hw := w.isLt
  have hwe : w.getLsbD 16 = true ↔ w.toNat / 65536 % 2 = 1 := by
    rw [BitVec.getLsbD, Nat.testBit_eq_decide_div_mod_eq, decide_eq_true_eq]
  have hval : (w.extractLsb' 0 16).toNat = w.toNat % 65536 := BitVec.extractLsb'_toNat _ _ _
  by_cases h : w.getLsbD 16 = true
  · have := hwe.1 h
    exact .inr ⟨w.extractLsb' 0 16, by omega, by rw [decodeRot, if_pos h]⟩
  · have := mt hwe.2 h
    exact .inl ⟨by omega, by rw [decodeRot, if_neg h]⟩

/-! ### Decoding an encoded word -/

theorem decode_encode_actDir (d : Bool) : decode .act (encode (.actDir d)) = .ok (.actDir d) := by
  cases d <;> rfl

theorem decode_encode_actStep (n : Byte) (hn : n ≠ 0#8) : decode .act (encode (.actStep n)) = .ok (.actStep n) := by
  have hword := encode_actStep_toNat n
  have hfits : (encode (.actStep n)).toNat < 2 ^ Port.act.width := Laws.WordFits.actStep n
  have hsame : ((encode (.actStep n)).setWidth 10).toNat = _ := setWidth_toNat_of_lt hfits
  have hpos : n.toNat ≠ 0 := mt (fun h => BitVec.eq_of_toNat_eq h) hn
  have hlt := n.isLt
  refine (decode_eq_ok_iff _ _ _).2 ⟨hfits, ?_⟩
  rcases decodeAct_cases ((encode (.actStep n)).setWidth 10) with ⟨h, -⟩ | ⟨h, -⟩ | ⟨d, h, -⟩ | ⟨m, -, h, hrow⟩ | ⟨h, -⟩
  · omega
  · omega
  · have := d.toNat_lt; omega
  · obtain rfl : m = n := BitVec.eq_of_toNat_eq (by omega)
    exact hrow
  · omega

theorem decode_encode_dspWrite (r : BitVec 3) (v : Byte) (hr : r.toNat ≤ 4) :
    decode .dsp (encode (.dspWrite r v)) = .ok (.dspWrite r v) := by
  have hword := encode_dspWrite_toNat r v
  have hfits : (encode (.dspWrite r v)).toNat < 2 ^ Port.dsp.width := Laws.WordFits.dspWrite r v
  have hsame : ((encode (.dspWrite r v)).setWidth 11).toNat = _ := setWidth_toNat_of_lt hfits
  refine (decode_eq_ok_iff _ _ _).2 ⟨hfits, ?_⟩
  have hv := v.isLt
  rcases decodeDsp_cases ((encode (.dspWrite r v)).setWidth 11) with ⟨r', v', -, h, hrow⟩ | ⟨h, -⟩
  · have hv' := v'.isLt
    obtain rfl : r' = r := BitVec.eq_of_toNat_eq (by omega)
    obtain rfl : v' = v := BitVec.eq_of_toNat_eq (by omega)
    exact hrow
  · omega

theorem decode_encode_rotSet (v : Word16) : decode .rot (encode (.rotSet v)) = .ok (.rotSet v) := by
  have hword := encode_rotSet_toNat v
  have hfits : (encode (.rotSet v)).toNat < 2 ^ Port.rot.width := Laws.WordFits.rotSet v
  have hsame : ((encode (.rotSet v)).setWidth 17).toNat = _ := setWidth_toNat_of_lt hfits
  refine (decode_eq_ok_iff _ _ _).2 ⟨hfits, ?_⟩
  rcases decodeRot_cases ((encode (.rotSet v)).setWidth 17) with ⟨h, -⟩ | ⟨v', h, hrow⟩
  · omega
  · obtain rfl : v' = v := BitVec.eq_of_toNat_eq (by omega)
    exact congrArg some hrow

theorem decode_encode_rotMove (d : Word16) : decode .env (encode (.rotMove d)) = .ok (.rotMove d) := by
  have hfits : (encode (.rotMove d)).toNat < 2 ^ Port.env.width := Laws.WordFits.rotMove d
  have hval : (encode (.rotMove d)).setWidth 16 = d :=
    BitVec.eq_of_toNat_eq ((setWidth_toNat_of_lt hfits).trans (encode_rotMove_toNat d))
  exact (decode_eq_ok_iff _ _ _).2 ⟨hfits, by rw [decodeRow, hval]⟩

/-- Settles O1: the words with no operand are read off the tables; each operand is the number in its field. -/
theorem decodeOfEncodeIsTheInstruction : Obligations.DecodeOfEncodeIsTheInstruction := by
  intro i hi
  cases i with
  | actDir d => exact decode_encode_actDir d
  | actStep n => exact decode_encode_actStep n (bne_iff_ne.1 hi)
  | dspWrite r v => exact decode_encode_dspWrite r v (of_decide_eq_true hi)
  | rotSet v => exact decode_encode_rotSet v
  | rotMove d => exact decode_encode_rotMove d
  | caSample b => cases b <;> rfl
  | alSample b => cases b <;> rfl
  | _ => rfl

/-! ### What a port decodes -/

theorem encode_actDir_toNat (d : Bool) : (encode (.actDir d)).toNat = 512 + d.toNat := by cases d <;> rfl

theorem encode_caSample_toNat (b : Bool) : (encode (.caSample b)).toNat = b.toNat := by cases b <;> rfl

theorem encode_alSample_toNat (b : Bool) : (encode (.alSample b)).toNat = b.toNat := by cases b <;> rfl

/-- An actuator word is the word of the instruction it decodes to. -/
theorem act_row_is_encoded {w : PortWord} {i : Instr} (hfits : w.toNat < 1024) (h : decodeRow .act w = some i) :
    i.port = .act ∧ i.wellFormed = true ∧ encode i = w := by
  have hsame : (w.setWidth 10).toNat = w.toNat := setWidth_toNat_of_lt hfits
  change decodeAct (w.setWidth 10) = some i at h
  rcases decodeAct_cases (w.setWidth 10) with ⟨hw, hrow⟩ | ⟨hw, hrow⟩ | ⟨d, hw, hrow⟩ | ⟨n, hn, hw, hrow⟩ | ⟨-, hrow⟩
  all_goals cases hrow.symm.trans h
  · exact ⟨rfl, rfl, BitVec.eq_of_toNat_eq (hw.symm.trans hsame)⟩
  · exact ⟨rfl, rfl, BitVec.eq_of_toNat_eq (hw.symm.trans hsame)⟩
  · exact ⟨rfl, rfl, BitVec.eq_of_toNat_eq ((encode_actDir_toNat d).trans (hw.symm.trans hsame))⟩
  · exact ⟨rfl, bne_iff_ne.2 hn, BitVec.eq_of_toNat_eq ((encode_actStep_toNat n).trans (hw.symm.trans hsame))⟩

/-- A display word is the word of the instruction it decodes to. -/
theorem dsp_row_is_encoded {w : PortWord} {i : Instr} (hfits : w.toNat < 2048) (h : decodeRow .dsp w = some i) :
    i.port = .dsp ∧ i.wellFormed = true ∧ encode i = w := by
  have hsame : (w.setWidth 11).toNat = w.toNat := setWidth_toNat_of_lt hfits
  change decodeDsp (w.setWidth 11) = some i at h
  rcases decodeDsp_cases (w.setWidth 11) with ⟨r, v, hr, hw, hrow⟩ | ⟨-, hrow⟩
  all_goals cases hrow.symm.trans h
  exact ⟨rfl, decide_eq_true hr, BitVec.eq_of_toNat_eq ((encode_dspWrite_toNat r v).trans (hw.symm.trans hsame))⟩

/-- Settles O2: port by port, the row that the word hits. -/
theorem decodedInstructionBelongsToItsPort : Obligations.DecodedInstructionBelongsToItsPort := by
  intro p w i h
  obtain ⟨hfits, hrow⟩ := (decode_eq_ok_iff p w i).1 h
  cases p with
  | ev =>
    obtain ⟨r, hr, -, rfl⟩ := exists_row_of_lookupRow hrow
    obtain ⟨hport, hwf⟩ := evRows_port r hr
    exact ⟨hport, hwf, fun hev => absurd rfl hev⟩
  | tickSeq =>
    obtain ⟨r, hr, hhit, rfl⟩ := exists_row_of_lookupRow hrow
    obtain ⟨hmask, hport, hwf, hcode⟩ := tickSeqRows_exact r hr
    exact ⟨hport, hwf, fun _ _ _ => encode_of_exact_row (by decide) hfits hmask hhit hcode⟩
  | uiSeq =>
    obtain ⟨r, hr, hhit, rfl⟩ := exists_row_of_lookupRow hrow
    obtain ⟨hmask, hport, hwf, hcode⟩ := uiSeqRows_exact r hr
    exact ⟨hport, hwf, fun _ _ _ => encode_of_exact_row (by decide) hfits hmask hhit hcode⟩
  | uit =>
    obtain ⟨x, -, rfl⟩ := Option.map_eq_some_iff.1 hrow
    obtain ⟨hport, hwf⟩ := uiOp_instr_port x
    exact ⟨hport, hwf, fun _ huit => absurd rfl huit⟩
  | act =>
    obtain ⟨hport, hwf, hword⟩ := act_row_is_encoded hfits hrow
    exact ⟨hport, hwf, fun _ _ _ => hword⟩
  | dsp =>
    obtain ⟨hport, hwf, hword⟩ := dsp_row_is_encoded hfits hrow
    exact ⟨hport, hwf, fun _ _ _ => hword⟩
  | rot =>
    rcases decodeRot_cases (w.setWidth 17) with ⟨-, hi⟩ | ⟨v, -, hi⟩
    all_goals
      obtain rfl := Option.some.inj ((congrArg some hi).symm.trans hrow)
      exact ⟨rfl, rfl, fun _ _ hrot => absurd rfl hrot⟩
  | in1Button =>
    cases hrow
    exact ⟨rfl, rfl, fun _ _ _ =>
      BitVec.eq_of_toNat_eq ((encode_caSample_toNat _).trans (toNat_getLsbD_zero hfits))⟩
  | in1Alarm =>
    cases hrow
    exact ⟨rfl, rfl, fun _ _ _ =>
      BitVec.eq_of_toNat_eq ((encode_alSample_toNat _).trans (toNat_getLsbD_zero hfits))⟩
  | stb =>
    rw [decodeRow] at hrow
    split at hrow
    next hset =>
      cases hrow
      have hone := toNat_getLsbD_zero hfits
      rw [hset] at hone
      exact ⟨rfl, rfl, fun _ _ _ => BitVec.eq_of_toNat_eq hone⟩
    next => cases hrow
  | env =>
    cases hrow
    exact ⟨rfl, rfl, fun _ _ _ =>
      BitVec.eq_of_toNat_eq ((encode_rotMove_toNat _).trans (setWidth_toNat_of_lt hfits))⟩

/-! ### Reserved words -/

/-- `tph` 10 to 15 have no row (Table E2, R108). -/
theorem lookupRow_tickSeqRows_eq_none_iff : ∀ v : BitVec 4, lookupRow tickSeqRows v = none ↔ 10 ≤ v.toNat := by decide

/-- `uph` 7 has no row (Table E3, R108). -/
theorem lookupRow_uiSeqRows_eq_none_iff : ∀ v : BitVec 3, lookupRow uiSeqRows v = none ↔ v.toNat = 7 := by decide

/-- The actuator words with no row (R97). -/
theorem decodeAct_eq_none_iff (w : BitVec 10) : decodeAct w = none ↔
    (w.toNat / 256 ≤ 1 ∧ w.toNat % 256 ≠ 0) ∨ (w.toNat / 256 = 2 ∧ 2 ≤ w.toNat % 256) ∨ w.toNat = 768 := by
  rcases decodeAct_cases w with ⟨hw, hrow⟩ | ⟨hw, hrow⟩ | ⟨d, hw, hrow⟩ | ⟨n, hn, hw, hrow⟩ | ⟨hw, hrow⟩
  · exact iff_of_false (by simp [hrow]) (by omega)
  · exact iff_of_false (by simp [hrow]) (by omega)
  · have := d.toNat_lt
    exact iff_of_false (by simp [hrow]) (by omega)
  · have hpos : n.toNat ≠ 0 := mt (fun h => BitVec.eq_of_toNat_eq h) hn
    have := n.isLt
    exact iff_of_false (by simp [hrow]) (by omega)
  · exact iff_of_true hrow hw

/-- The display words with no row (R108). -/
theorem decodeDsp_eq_none_iff (w : BitVec 11) : decodeDsp w = none ↔ 5 ≤ w.toNat / 256 := by
  rcases decodeDsp_cases w with ⟨r, v, hr, hw, hrow⟩ | ⟨hw, hrow⟩
  · have := v.isLt
    exact iff_of_false (by simp [hrow]) (by omega)
  · exact iff_of_true hrow hw

/-- Settles O3: on each port the words its table has no row for. -/
theorem reservedWordsAreRejected : Obligations.ReservedWordsAreRejected := by
  refine fun w => ⟨fun hfits => ?act, fun hfits => ?tickSeq, fun hfits => ?uiSeq, fun hfits => ?dsp,
    fun p => decode_of_tooWide p w⟩
  case act => rw [decode_eq_reserved_iff _ _ hfits, decodeRow, decodeAct_eq_none_iff, setWidth_toNat_of_lt hfits]
  case tickSeq =>
    rw [decode_eq_reserved_iff _ _ hfits, decodeRow, lookupRow_tickSeqRows_eq_none_iff, setWidth_toNat_of_lt hfits]
  case uiSeq =>
    rw [decode_eq_reserved_iff _ _ hfits, decodeRow, lookupRow_uiSeqRows_eq_none_iff, setWidth_toNat_of_lt hfits]
  case dsp => rw [decode_eq_reserved_iff _ _ hfits, decodeRow, decodeDsp_eq_none_iff, setWidth_toNat_of_lt hfits]

/-! ### Words written out -/

/-- Table E1 in words: `rst` wins, and the other bits are a `UICYC` and a `TICK` (R91). -/
theorem lookupRow_evRows : ∀ v : BitVec 3, lookupRow evRows v =
    some (if 4 ≤ v.toNat then .reset else if v.toNat = 3 then .tickUicyc else if v.toNat = 2 then .tick
      else if v.toNat = 1 then .uicyc else .noevent) := by decide

/-- Settles O4: the event vectors by Table E1 in words, the other words by computation. -/
theorem wordsOfTheTablesDecode : Obligations.WordsOfTheTablesDecode := by
  refine ⟨fun w hfits => ?_, rfl, rfl, rfl, rfl, rfl, rfl, rfl, rfl, rfl⟩
  refine (decode_eq_ok_iff _ _ _).2 ⟨hfits, ?_⟩
  rw [decodeRow, lookupRow_evRows, setWidth_toNat_of_lt hfits]

end Sys2Proof

namespace Sys2Proof.Machine

/-! ### A step -/

/-- Settles O5: the step takes the presentation and runs what its word decodes to. -/
theorem stepRunsTheDecodedInstruction : Obligations.StepRunsTheDecodedInstruction := by
  intro s x rest i hslots hword
  simp only [step, hslots, hword]
  rfl

/-- Settles O6: the two other branches of the step. -/
theorem stepWithoutAnInstruction : Obligations.StepWithoutAnInstruction := by
  refine ⟨fun s hslots => ?nothing, fun s x rest e hslots hword => ?reserved⟩
  case nothing =>
    have hquiet : step s = exec .noevent (quiet s) := by simp only [step, hslots]
    exact hquiet
  case reserved => simp only [step, hslots, hword]

/-! ### Transitions, commands and the units they reach -/

/-- The picked row's instruction is the transition operation of `UI.TRANS` (R166). -/
theorem exec_instr (x : UiOp) (s : State) : exec x.instr s = .next (performOp x s) := by cases x <;> rfl

/-- Settles O33, by the instruction of the picked row. -/
theorem uiTransPerformsThePickedRow : Obligations.UiTransPerformsThePickedRow :=
  ⟨rfl, fun s => ⟨uiTrans s, rfl, exec_instr s.ul.op s⟩⟩

/-- Settles O38: the rows are rows of Table E4, and their operations write nothing. -/
theorem nopRowsWriteNothing : Obligations.NopRowsWriteNothing := by
  refine ⟨uitRow_of_mem (op := .nopF) (by decide), uitRow_of_mem (op := .nopI) (by decide),
    uitRow_of_mem (op := .nopU) (by decide), uitRow_of_mem (op := .nopV) (by decide), fun s i hi => ?_⟩
  simp only [List.mem_cons, List.not_mem_nil, or_false] at hi
  rcases hi with rfl | rfl | rfl | rfl <;> rfl

/-- Settles O49: each command is its record and its effect, and `ACT.STEP` has one only for a count that is not 0. -/
theorem actuatorCommands : Obligations.ActuatorCommands := by
  refine fun s d n => ⟨rfl, congrArg Host.Outcome.next (sendStop_eq s), congrArg Host.Outcome.next (sendDir_eq d s),
    fun hn => ?counted, rfl⟩
  case counted =>
    rcases execActStep_cases n s with ⟨h0, -⟩ | ⟨-, h⟩
    · exact absurd h0 hn
    · exact h

/-- Settles O50: the word is the encoded one, and the write is shown in its place alone. -/
theorem displayWriteShowsTheValue : Obligations.DisplayWriteShowsTheValue := by
  refine fun s r v => ⟨fun hr => ⟨?word, ?shown⟩, fun hr => ?reserved⟩
  case word =>
    have hword : BitVec.ofNat 24 (256 * r.toNat + v.toNat) = encode (.dspWrite r v) := by
      apply BitVec.eq_of_toNat_eq
      have := v.isLt
      rw [encode_dspWrite_toNat, BitVec.toNat_ofNat]
      omega
    rw [hword]
    exact decode_encode_dspWrite r v hr
  case shown =>
    rcases execDspWrite_cases r v s with ⟨-, h⟩ | ⟨h4, -⟩
    · refine ⟨sendDisplay r v s, h, rfl, ?_⟩
      rw [sendDisplay_eq, Display.write_eq]
      exact ⟨rfl, rfl, rfl, rfl, rfl⟩
    · omega
  case reserved =>
    rcases execDspWrite_cases r v s with ⟨h4, -⟩ | ⟨-, h⟩
    · omega
    · exact h

/-- A movement is added modulo 2^16, as a signed count (R218). -/
theorem rotMove_rot_toNat (d : Word16) (s : State) :
    ((rotMove d s).input.rot.toNat : Int) = ((s.input.rot.toNat : Int) + d.toInt) % 2 ^ 16 := by
  change ((s.input.rot + d).toNat : Int) = _
  rw [BitVec.toNat_add, BitVec.toInt_eq_toNat_cond]
  split <;> omega

/-- Settles O51: the words are the encoded ones, and each operation is its one write. -/
theorem rotaryRegisterAndClickRead : Obligations.RotaryRegisterAndClickRead := by
  refine ⟨fun w hw => ?get, rfl, fun s v d => ⟨?set, ?move, rfl, congrArg Host.Outcome.next (rotSet_eq v s),
    ⟨rotMove d s, rfl, rotMove_eq d s, rotMove_rot_toNat d s⟩, rfl⟩⟩
  case get =>
    have hfits : w.toNat < 2 ^ 17 := by omega
    have hsame := setWidth_toNat_of_lt hfits
    refine (decode_eq_ok_iff _ _ _).2 ⟨hfits, ?_⟩
    rcases decodeRot_cases (w.setWidth 17) with ⟨-, h⟩ | ⟨v, hv, -⟩
    · exact congrArg some h
    · omega
  case set =>
    have hword : BitVec.ofNat 24 (65536 + v.toNat) = encode (.rotSet v) := by
      apply BitVec.eq_of_toNat_eq
      have := v.isLt
      rw [encode_rotSet_toNat, BitVec.toNat_ofNat]
      omega
    rw [hword]
    exact decode_encode_rotSet v
  case move =>
    have hword : BitVec.ofNat 24 d.toNat = encode (.rotMove d) := by
      apply BitVec.eq_of_toNat_eq
      have := d.isLt
      rw [encode_rotMove_toNat, BitVec.toNat_ofNat]
      omega
    rw [hword]
    exact decode_encode_rotMove d

end Sys2Proof.Machine
end

section
/-! PROOF. A whole `TICK` (40_synchronizer.md R141 to R149): the states between its phases, what they hold, the three
things its end can do, and from these the frame, the emitted commands, the re-baseline and the conserved motion. -/

namespace Sys2Proof.Machine

/-! ### The states inside a `TICK` -/

/-- After the prologue and the three phases that measure: the pair, the delta and the filter are this tick's. -/
def measured (s : State) : State := synFilter (synDelta (synSample (tickPrologue s)))

/-- After `SYN.ACCUM`. -/
def accumulated (s : State) : State := synAccum (measured s)

/-- After `SYN.REBASE`. -/
def baselined (s : State) : State := synRebase (accumulated s)

/-- After `SYN.STEPS`: the target and the steps owed are known. -/
def owing (s : State) : State := synSteps (synTarget (baselined s))

/-- After `SYN.FCHK`: the latch is this tick's. -/
def checked (s : State) : State := synFchk (owing s)

theorem tick_eq (s : State) : tick s = synHalt (synIssue (checked s)) := rfl

@[simp] theorem measured_cfg (s : State) : (measured s).cfg = s.cfg := by simp [measured]
@[simp] theorem measured_sync (s : State) : (measured s).sync = s.sync := by simp [measured]
@[simp] theorem measured_levels (s : State) : (measured s).levels = s.levels := by simp [measured]
@[simp] theorem measured_rs (s : State) : (measured s).tl.rs = s.shared.ratio := by
  simp [measured, synFilter, synDelta, synSample]
@[simp] theorem measured_rv (s : State) : (measured s).tl.rv = s.shared.reverse := by
  simp [measured, synFilter, synDelta, synSample]

@[simp] theorem accumulated_cfg (s : State) : (accumulated s).cfg = s.cfg := by simp [accumulated]
@[simp] theorem accumulated_tl (s : State) : (accumulated s).tl = (measured s).tl := by simp [accumulated]

@[simp] theorem baselined_tl (s : State) : (baselined s).tl = (measured s).tl := by simp [baselined]

@[simp] theorem owing_cfg (s : State) : (owing s).cfg = s.cfg := by simp [owing, baselined]
@[simp] theorem owing_sync (s : State) : (owing s).sync = (baselined s).sync := by
  rw [owing, synSteps_sync, synTarget_sync]
@[simp] theorem owing_shared (s : State) : (owing s).shared = s.shared := by
  simp [owing, baselined, accumulated, measured]
@[simp] theorem owing_alarm (s : State) : (owing s).alarm = (tickPrologue s).alarm := by
  simp [owing, baselined, accumulated, measured]
@[simp] theorem owing_delta (s : State) : (owing s).tl.delta = (measured s).tl.delta := by
  simp [owing, synSteps, synTarget]
@[simp] theorem owing_rv (s : State) : (owing s).tl.rv = s.shared.reverse := by simp [owing, synSteps, synTarget]

/-- The target is the scaled position (R135). -/
theorem owing_target (s : State) :
    (owing s).tl.target = fxmul (baselined s).sync.spindlePos s.shared.ratio := by
  simp [owing, synSteps, synTarget]

/-- The steps owed are what the servo lacks to the target (R136). -/
theorem owing_steps (s : State) :
    (owing s).tl.steps = stepDifference (owing s).tl.target (baselined s).sync.servoPos := by
  simp [owing, synSteps]

theorem owing_absSteps (s : State) : (owing s).tl.absSteps = absSteps (owing s).tl.steps := by
  simp [owing, synSteps]

@[simp] theorem checked_sync (s : State) : (checked s).sync = (baselined s).sync := by simp [checked]
@[simp] theorem checked_tl (s : State) : (checked s).tl = (owing s).tl := by simp [checked]
@[simp] theorem checked_levels (s : State) : (checked s).levels = s.levels := by
  simp [checked, owing, baselined, accumulated, measured]
@[simp] theorem checked_out (s : State) : (checked s).out = s.out := by
  simp [checked, owing, baselined, accumulated, measured]

@[simp] theorem tick_tl (s : State) : (tick s).tl = (owing s).tl := by simp [tick_eq]

theorem tick_filt (s : State) : (tick s).tl.filt = (measured s).tl.filt := by simp [owing, synSteps, synTarget]

@[simp] theorem tick_alarm (s : State) : (tick s).alarm = (tickPrologue s).alarm := by simp [tick_eq, checked]

@[simp] theorem tick_input (s : State) : (tick s).input = (tickPrologue s).input := by simp [tick]

@[simp] theorem tick_tickCount (s : State) : (tick s).tickCount = s.tickCount + 1#32 := by simp [tick, tickPrologue]

/-- Of the input levels a `TICK` writes the idle status alone. -/
theorem tick_levels (s : State) : (tick s).levels = { s.levels with idle := (tick s).levels.idle } := by
  have hlev := checked_levels s
  rw [tick_eq, synHalt_levels]
  rcases synIssue_cases (checked s) with ⟨-, h⟩ | ⟨-, -, -, h⟩ <;> rw [h]
  · rw [hlev]
  · rw [← hlev]; rfl

/-- Of the shared fields a `TICK` writes the latch alone. -/
theorem tick_shared (s : State) : (tick s).shared = { s.shared with fault := (tick s).shared.fault } := by
  change _ = (⟨s.shared.ratio, s.shared.reverse, (tick s).shared.fault⟩ : Shared)
  rw [← tick_ratio s, ← tick_reverse s]

/-! ### The end of a `TICK` -/

/-- The latch after a `TICK`: the debounced alarm wins over the step cap (R137). -/
theorem tick_fault (s : State) : (tick s).shared.fault =
    if (tick s).alarm.level = true then .servoAlarm
    else if s.cfg.maxSteps < (tick s).tl.steps.toInt.natAbs then .tooManySteps else s.shared.fault := by
  simp only [tick_eq, synHalt_shared, synIssue_shared, synHalt_alarm, synIssue_alarm, synHalt_tl, synIssue_tl]
  simp only [checked, synFchk_eq, State.setShared_shared, State.setShared_alarm, State.setShared_tl, overStepCap_iff,
    owing_absSteps, absSteps_toNat, owing_cfg, owing_shared]

/-- The three things the end of a `TICK` can do: stop while a fault is latched, issue nothing, or issue the steps
owed (R138, R139). -/
theorem tick_cases (s : State) :
    ((tick s).shared.fault ≠ .none ∧ tick s = haltMotion (checked s)) ∨
    ((tick s).shared.fault = .none ∧ ((owing s).tl.steps = 0#32 ∨ s.levels.idle = false) ∧ tick s = checked s) ∨
    ((tick s).shared.fault = .none ∧ (owing s).tl.steps ≠ 0#32 ∧ s.levels.idle = true ∧
      tick s = (sendStep ((owing s).tl.absSteps.setWidth 8)
        (sendDir (stepDirection (owing s).tl.steps s.shared.reverse) (checked s))).setSync
          { (baselined s).sync with servoPos := (baselined s).sync.servoPos + (owing s).tl.steps }) := by
  have hfault : (tick s).shared.fault = (checked s).shared.fault := by rw [tick_eq, synHalt_shared, synIssue_shared]
  have hissue := synIssue_cases (checked s)
  have hhalt := synHalt_cases (synIssue (checked s))
  rw [← tick_eq, synIssue_shared, ← hfault] at hhalt
  rw [← hfault, checked_tl, checked_levels, checked_sync, owing_rv] at hissue
  rcases hhalt with ⟨hnone, ht⟩ | ⟨hsome, ht⟩
  · rcases hissue with ⟨hno, hi⟩ | ⟨-, hsteps, hidle, hi⟩
    · exact .inr (.inl ⟨hnone, hno.resolve_left (· hnone), ht.trans hi⟩)
    · exact .inr (.inr ⟨hnone, hsteps, hidle, ht.trans hi⟩)
  · rcases hissue with ⟨-, hi⟩ | ⟨hnone, -⟩
    · exact .inl ⟨hsome, ht.trans (congrArg haltMotion hi)⟩
    · exact absurd hnone hsome

/-- Only the servo position and the validity of the cache are written after `SYN.REBASE`. -/
theorem tick_sync (s : State) : (tick s).sync = { (baselined s).sync with
    servoPos := (tick s).sync.servoPos, cacheValid := (tick s).sync.cacheValid } := by
  rcases tick_cases s with ⟨-, h⟩ | ⟨-, -, h⟩ | ⟨-, -, -, h⟩ <;> rw [h]
  · rw [haltMotion_eq, checked_sync]
  · rw [checked_sync]
  · rfl

@[simp] theorem tick_spindlePos (s : State) : (tick s).sync.spindlePos = (baselined s).sync.spindlePos := by
  rw [tick_sync]

/-- While a fault is latched the cache is left invalid (R139). -/
theorem tick_cacheHalted (s : State) (h : (tick s).shared.fault ≠ .none) : (tick s).sync.cacheValid = false := by
  rcases tick_cases s with ⟨-, ht⟩ | ⟨hnone, -⟩ | ⟨hnone, -⟩
  · rw [ht]; rfl
  · exact absurd hnone h
  · exact absurd hnone h

/-! ### The frame -/

/-- On a tick that is filtered `last_raw` and `last_delta` stay, on any other they are this tick's (R133). -/
theorem tick_last (s : State) :
    ((tick s).tl.filt = true → (tick s).sync.lastRaw = s.sync.lastRaw ∧ (tick s).sync.lastDelta = s.sync.lastDelta) ∧
    ((tick s).tl.filt = false →
      (tick s).sync.lastRaw = s.levels.raw ∧ (tick s).sync.lastDelta = (tick s).tl.delta) := by
  rw [tick_filt, tick_sync, tick_tl, owing_delta]
  simp only [baselined, synRebase_lastRaw, synRebase_lastDelta]
  rcases synAccum_cases (measured s) with ⟨hf, h⟩ | ⟨hf, h⟩ <;> rw [accumulated, h, hf]
  · exact ⟨fun _ => ⟨rfl, rfl⟩, nofun⟩
  · exact ⟨nofun, fun _ => ⟨rfl, rfl⟩⟩

/-- Settles O20: field by field, what a `TICK` leaves. -/
theorem tickLeavesTheUiContext : Obligations.TickLeavesTheUiContext := by
  refine fun s => ⟨tick s, rfl, ?frame, ?count, ?rs, ?rv, tick_last s⟩
  case frame =>
    rw [← tick_shared s, ← tick_levels s, ← tick_rot s, ← tick_cfg s, ← tick_ui s, ← tick_ul s, ← tick_display s,
      ← tick_slots s, ← tick_landings s]
  case count => rw [tick_tickCount, BitVec.toNat_add]; rfl
  case rs => exact (tick_sampled_pair s).1
  case rv => exact (tick_sampled_pair s).2

/-! ### The emitted commands -/

/-- A step count within the cap of Table P fits its command (R97, R149). -/
theorem absSteps_setWidth_toNat {x : Word32} (h : x.toInt.natAbs ≤ 255) :
    ((absSteps x).setWidth 8).toNat = x.toInt.natAbs := by
  rw [BitVec.toNat_setWidth, absSteps_toNat]
  omega

/-- With no fault latched the steps owed are within the cap (R137). -/
theorem tick_steps_le_of_no_fault (s : State) (h : (tick s).shared.fault = .none) :
    (tick s).tl.steps.toInt.natAbs ≤ s.cfg.maxSteps := by
  rw [tick_fault] at h
  by_contra hcap
  rw [if_pos (Nat.lt_of_not_le hcap)] at h
  split at h <;> cases h

/-- Settles O21, by the three ends of a `TICK`. -/
theorem tickEmitsOneSequence : Obligations.TickEmitsOneSequence := by
  intro s hfixed
  obtain ⟨-, -, hmax, -⟩ := (fixedOk_iff _).1 hfixed
  have hcap := tick_steps_le_of_no_fault s
  rw [hmax, tick_tl] at hcap
  refine ⟨tick s, rfl, ?_⟩
  rw [tick_tl]
  rcases tick_cases s with ⟨hf, h⟩ | ⟨hf, hno, h⟩ | ⟨hf, hsteps, hidle, h⟩
  · have hout : (tick s).out = s.out ++ [.actStop] := by rw [h, haltMotion_eq, checked_out]
    exact ⟨.inl ⟨hf, tick_cacheHalted s hf, hout⟩, fun _ => ⟨hf, hout⟩⟩
  · have hout : (tick s).out = s.out := by rw [h, checked_out]
    exact ⟨.inr (.inl ⟨hf, hno, hout⟩), fun hover => absurd (hcap hf) (Nat.not_le.2 hover)⟩
  · refine ⟨.inr (.inr ⟨hf, hsteps, hidle, stepDirection (owing s).tl.steps s.shared.reverse,
      (owing s).tl.absSteps.setWidth 8, ?out, ?_⟩), fun hover => absurd (hcap hf) (Nat.not_le.2 hover)⟩
    case out =>
      rw [h]
      simp [sendStep_eq, sendDir_eq]
    have hcount := absSteps_setWidth_toNat (hcap hf)
    have hpos : (owing s).tl.steps.toInt ≠ 0 := mt (fun h0 => BitVec.eq_of_toInt_eq (h0.trans rfl)) hsteps
    rw [owing_absSteps, hcount]
    exact ⟨by omega, hcap hf, rfl, stepDirection_iff _ _⟩

/-! ### The re-baseline -/

/-- The position that `SYN.ACCUM` leaves, in the words of R133. -/
theorem accumulated_spindlePos_toNat (s : State) : (accumulated s).sync.spindlePos.toNat =
    positionAfterAccum s (tick s).tl.filt (tick s).tl.delta.toInt := by
  rw [tick_filt, tick_tl, owing_delta, positionAfterAccum]
  rcases synAccum_cases (measured s) with ⟨hf, h⟩ | ⟨hf, h⟩ <;> rw [accumulated, h, hf]
  · rfl
  · exact (congrArg Int.toNat (accumulate_toNat _ _))

/-- The trigger inside a `TICK`, in the words of R134. -/
theorem rebaseDue_accumulated_iff (s : State) : rebaseDue (accumulated s) = true ↔
    RebaseDemanded s s.shared.ratio s.shared.reverse
      (positionAfterAccum s (tick s).tl.filt (tick s).tl.delta.toInt) := by
  rw [rebaseDue_iff, accumulated_spindlePos_toNat, accumulated_tl, measured_rs, measured_rv]
  simp [RebaseDemanded, accumulated]

/-- A re-baselined tick: the pair is cached, and both positions start from the bias (R134). -/
theorem baselined_of_demanded (s : State) (h : RebaseDemanded s s.shared.ratio s.shared.reverse
    (positionAfterAccum s (tick s).tl.filt (tick s).tl.delta.toInt)) :
    (baselined s).sync = { (accumulated s).sync with
      cachedRatio := s.shared.ratio, cachedReverse := s.shared.reverse, cacheValid := true
      spindlePos := accumulate s.cfg.bias (tick s).tl.delta, servoPos := fxmul s.cfg.bias s.shared.ratio } := by
  have hdue := (rebaseDue_accumulated_iff s).2 h
  rcases synRebase_cases (accumulated s) with ⟨hno, -⟩ | ⟨-, hb⟩
  · exact absurd (hno.symm.trans hdue) nofun
  · rw [baselined, hb, State.setSync_sync, tick_tl, owing_delta, accumulated_tl, accumulated_cfg]
    rfl

/-- Any other tick leaves the positions of `SYN.ACCUM`. -/
theorem baselined_of_not_demanded (s : State) (h : ¬ RebaseDemanded s s.shared.ratio s.shared.reverse
    (positionAfterAccum s (tick s).tl.filt (tick s).tl.delta.toInt)) : baselined s = accumulated s := by
  rcases synRebase_cases (accumulated s) with ⟨-, hb⟩ | ⟨hdue, -⟩
  · exact hb
  · exact absurd ((rebaseDue_accumulated_iff s).1 hdue) h

/-- Scaling a biased position and the bias itself: the difference is the floor of the scaled motion, and it fits the
step register (R147). -/
theorem stepDifference_of_bias {pos bias : Word32} {d : Int} (r : Word32) (hbias : bias = 0x80000000#32)
    (hpos : (pos.toNat : Int) = 2 ^ 31 + d) (hlo : -32768 ≤ d) (hhi : d ≤ 32767) :
    (stepDifference (fxmul pos r) (fxmul bias r)).toInt = d * (r.toNat : Int) / 65536 := by
  subst hbias
  obtain ⟨x, hx⟩ : ∃ x, d * (r.toNat : Int) = x := ⟨_, rfl⟩
  have hr : (r.toNat : Int) < 2 ^ 32 := by exact_mod_cast r.isLt
  have hxlo : -32768 * (2 ^ 32 - 1) ≤ x := by nlinarith
  have hxhi : x ≤ 32767 * (2 ^ 32 - 1) := by nlinarith
  have hproduct : ((pos.toNat * r.toNat : Nat) : Int) = 2 ^ 31 * (r.toNat : Int) + x := by
    rw [← hx, Nat.cast_mul, hpos]; ring
  have htarget := fxmul_toNat pos r
  have hservo : (fxmul 0x80000000#32 r).toNat = r.toNat * 2 ^ 15 % 2 ^ 32 := by
    rw [fxmul_bias, BitVec.toNat_shiftLeft, Nat.shiftLeft_eq]
  generalize pos.toNat * r.toNat = product at hproduct htarget
  have hcongr := toInt_sub_congr (fxmul pos r) (fxmul 0x80000000#32 r)
  have hbounds := word32_toInt_bounds (fxmul pos r - fxmul 0x80000000#32 r)
  rw [stepDifference, hx]
  omega

/-- The steps of a re-baselined tick are the floor of its own motion times the ratio (R147). -/
theorem tick_steps_of_demanded (s : State) (hfixed : s.cfg.fixedOk = true)
    (h : RebaseDemanded s s.shared.ratio s.shared.reverse
      (positionAfterAccum s (tick s).tl.filt (tick s).tl.delta.toInt)) :
    (tick s).tl.steps.toInt = (tick s).tl.delta.toInt * (s.shared.ratio.toNat : Int) / 65536 := by
  obtain ⟨hbias, -⟩ := (fixedOk_iff _).1 hfixed
  obtain ⟨hlo, hhi⟩ := word16_toInt_bounds (tick s).tl.delta
  have hsteps : (tick s).tl.steps = stepDifference (fxmul (accumulate s.cfg.bias (tick s).tl.delta) s.shared.ratio)
      (fxmul s.cfg.bias s.shared.ratio) := by
    rw [tick_tl, owing_steps, owing_target, baselined_of_demanded s h, tick_tl]
  rw [hsteps]
  exact stepDifference_of_bias _ hbias (accumulate_bias _ hfixed _) hlo hhi

/-- Settles O24, by the two positions of a re-baselined tick. -/
theorem rebaselinedStepsAreThisTicksMotion : Obligations.RebaselinedStepsAreThisTicksMotion := by
  refine fun s hfixed => ⟨tick s, rfl, fun h => ⟨tick_steps_of_demanded s hfixed h, ?_⟩⟩
  rw [tick_sync, baselined_of_demanded s h]
  exact ⟨accumulate_bias _ hfixed _, rfl, rfl⟩

/-- Settles O25: the tick is re-baselined, its steps are those of its own motion, and so neither condition of
`SYN.FCHK` holds. -/
theorem ratioChangeRaisesNoFault : Obligations.RatioChangeRaisesNoFault := by
  refine fun s hfixed hnone hchange => ⟨tick s, rfl, fun halarm hmotion => ?_⟩
  have hsteps := tick_steps_of_demanded s hfixed (.inr (hchange.imp_right .inl))
  obtain ⟨-, -, hmax, -⟩ := (fixedOk_iff _).1 hfixed
  have hmotion' : ((tick s).tl.delta.toInt * (s.shared.ratio.toNat : Int)).natAbs ≤ 255 * 65536 := by
    rwa [Int.natAbs_mul, Int.natAbs_natCast]
  have hcap : ¬ s.cfg.maxSteps < (tick s).tl.steps.toInt.natAbs := by
    rw [hmax, hsteps]; omega
  rw [tick_fault, halarm, if_neg Bool.false_ne_true, if_neg hcap, hnone]

/-- Settles O28: the invalid cache re-baselines the tick, and the latched fault stops it. -/
theorem latchedTickRebaselinesAndStops : Obligations.LatchedTickRebaselinesAndStops := by
  intro s hlatched hinvalid
  have hlatched' := tick_latched s hlatched
  have hbase := baselined_of_demanded s (.inl hinvalid)
  rcases tick_cases s with ⟨-, h⟩ | ⟨hnone, -⟩ | ⟨hnone, -⟩
  · refine ⟨tick s, rfl, hlatched', tick_cacheHalted s hlatched', ?out, ?spindle, ?servo⟩
    case out => rw [h, haltMotion_eq, checked_out]
    case spindle => rw [tick_spindlePos, hbase]; exact accumulate_toNat _ _
    case servo => rw [h, haltMotion_eq, checked_sync, hbase]; exact fxmul_toNat _ _
  · exact absurd hnone hlatched'
  · exact absurd hnone hlatched'

/-! ### Conserved motion -/

/-- A tick that is neither filtered nor re-baselined adds its delta to the position (R146). -/
theorem tick_spindlePos_of_steady (s : State) (hfilt : (tick s).tl.filt = false)
    (h : ¬ RebaseDemanded s s.shared.ratio s.shared.reverse
      (((s.sync.spindlePos.toNat : Int) + (tick s).tl.delta.toInt) % 2 ^ 32).toNat) :
    ((tick s).sync.spindlePos.toNat : Int) =
      ((s.sync.spindlePos.toNat : Int) + (tick s).tl.delta.toInt) % 2 ^ 32 := by
  have hpos : positionAfterAccum s (tick s).tl.filt (tick s).tl.delta.toInt =
      (((s.sync.spindlePos.toNat : Int) + (tick s).tl.delta.toInt) % 2 ^ 32).toNat := by
    rw [hfilt]; rfl
  rw [tick_spindlePos, baselined_of_not_demanded s (hpos ▸ h), accumulated_spindlePos_toNat, hpos]
  omega

/-- Settles O26, by induction on the run. -/
theorem steadyTicksConserveMotion : Obligations.SteadyTicksConserveMotion := by
  intro xs
  induction xs with
  | nil =>
    rintro s t d ⟨rfl, rfl⟩
    have := t.sync.spindlePos.isLt
    omega
  | cons x xs ih =>
    rintro s t d ⟨u, e, htick, hfilt, hsteady, hrest, rfl⟩
    obtain rfl : tick (present x s) = u := Host.Outcome.next.inj htick
    have hfirst := tick_spindlePos_of_steady (present x s) hfilt hsteady
    have hlast := ih _ _ _ hrest
    change _ = ((s.sync.spindlePos.toNat : Int) + _) % 2 ^ 32 at hfirst
    omega

/-- Adding the difference to the servo position gives the target (R136, R138). -/
theorem servo_add_stepDifference (target servo : Word32) : servo + stepDifference target servo = target := by
  rw [stepDifference, add_comm, BitVec.sub_add_cancel]

/-- Settles O27: with the actuator idle the steps owed are issued, and none owed means that the servo is at the
target. -/
theorem idleTickReachesTheTarget : Obligations.IdleTickReachesTheTarget := by
  refine fun s hidle => ⟨tick s, rfl, fun hnone => ?_⟩
  have htarget : (tick s).sync.servoPos = (owing s).tl.target := by
    rcases tick_cases s with ⟨hf, -⟩ | ⟨-, hno, h⟩ | ⟨-, -, -, h⟩
    · exact absurd hnone hf
    · have hzero := hno.resolve_right (by simp [hidle])
      have hsum := servo_add_stepDifference (owing s).tl.target (baselined s).sync.servoPos
      rw [← owing_steps, hzero, BitVec.add_zero] at hsum
      rw [h, checked_sync, hsum]
    · rw [h, owing_steps]
      exact servo_add_stepDifference _ _
  rw [htarget, owing_target, tick_spindlePos, fxmul_toNat]

end Sys2Proof.Machine
end

section
/-! PROOF. The block's invariant (R32, R36, R37, R45, R49, R72, R305). Its clauses about the synchronizer and the run
counters hold at every boundary inside an event, so every landing keeps them; the clauses about the UI context hold when
a `UICYC` ends, by the transition it picked. -/

namespace Sys2Proof.Machine

/-! ### What a `TICK` does to the run counters and the position -/

theorem tickPrologue_alarm (s : State) : (tickPrologue s).alarm =
    { level := (debounce s.cfg.alarmStable s.alarm.level s.alarm.run.toNat s.levels.alarmRaw).1
      run := BitVec.ofNat 4 (debounce s.cfg.alarmStable s.alarm.level s.alarm.run.toNat s.levels.alarmRaw).2 } := by
  simp [tickPrologue, alSample_eq]

theorem tickPrologue_input (s : State) : (tickPrologue s).input = (caSample s.levels.btnRaw s).input := rfl

/-- The run of a debounce stays below its window, in any counter that can hold the window. -/
theorem toNat_ofNat_debounce_run_lt {window width : Nat} (h : 1 ≤ window) (hfits : window ≤ 2 ^ width) (level : Bool)
    (run : Nat) (b : Bool) : (BitVec.ofNat width (debounce window level run b).2).toNat < window := by
  have hlt := debounce_run_lt h level run b
  rwa [toNat_ofNat_of_lt (hlt.trans_le hfits)]

/-- A burst's age stays below the follow-on window (R36, R212). -/
theorem aggregate_burstAge_lt {window : Nat} (h : 1 ≤ window) (hfits : window ≤ 255) (click : Bool) (x : InputUnit)
    (hx : x.burstAge.toNat < window) : (aggregate window click x).burstAge.toNat < window := by
  rcases aggregate_cases window click x with ⟨-, ha⟩ | ⟨-, -, ha⟩ | ⟨-, -, -, ha⟩ | ⟨-, -, hlt, ha⟩ <;> rw [ha]
  · exact h
  · exact hx
  · exact h
  · rwa [toNat_ofNat_of_lt (by omega)]

/-- After a `TICK` the position is at or above the low-water mark, if a fresh baseline is (R305). -/
theorem tick_aboveLowWater (s : State) (hfixed : s.cfg.fixedOk = true) (hlow : s.cfg.lowWater.toNat ≤ 0x7FFF8000) :
    s.cfg.lowWater.toNat ≤ (tick s).sync.spindlePos.toNat := by
  rw [tick_spindlePos]
  by_cases h : RebaseDemanded s s.shared.ratio s.shared.reverse
      (positionAfterAccum s (tick s).tl.filt (tick s).tl.delta.toInt)
  · obtain ⟨hmotion, -⟩ := word16_toInt_bounds (tick s).tl.delta
    have hbase := accumulate_bias s.cfg hfixed (tick s).tl.delta
    rw [baselined_of_demanded s h]
    dsimp only
    omega
  · rw [baselined_of_not_demanded s h, accumulated_spindlePos_toNat]
    exact Nat.le_of_not_lt fun hlt => h (.inr (.inr (.inr hlt)))

/-! ### The clauses that hold at every boundary -/

/-- The clauses of the invariant that hold also inside an event, at every boundary. -/
structure RunningInv (s : State) : Prop where
  lowWaterOk : s.cfg.lowWaterOk = true
  windowsOk : s.cfg.windowsOk = true
  fixedOk : s.cfg.fixedOk = true
  cacheHalted : s.shared.fault ≠ .none → s.sync.cacheValid = false
  aboveLowWater : s.cfg.lowWater.toNat ≤ 0x7FFF8000 → s.cfg.lowWater.toNat ≤ s.sync.spindlePos.toNat
  btnRunning : s.input.btnRun.toNat < s.cfg.debounceTicks
  burstOpen : s.input.burstAge.toNat < s.cfg.aggTicks
  alarmRunning : s.alarm.run.toNat < s.cfg.alarmStable
  presentable : ∀ x ∈ s.slots, Presentable x

theorem BlockInv.running {s : State} (h : BlockInv s) : RunningInv s where
  lowWaterOk := h.lowWaterOk
  windowsOk := h.windowsOk
  fixedOk := h.fixedOk
  cacheHalted := h.cacheHalted
  aboveLowWater := h.aboveLowWater
  btnRunning := h.btnRunning
  burstOpen := h.burstOpen
  alarmRunning := h.alarmRunning
  presentable := h.presentable

/-- A step that leaves the synchronizer, the run counters and the parameters, and latches nothing, keeps them. -/
theorem RunningInv.of_same {s t : State} (h : RunningInv s) (hcfg : t.cfg = s.cfg) (hsync : t.sync = s.sync)
    (hfault : t.shared.fault ≠ .none → s.shared.fault ≠ .none) (hbtn : t.input.btnRun = s.input.btnRun)
    (hburst : t.input.burstAge = s.input.burstAge) (halarm : t.alarm = s.alarm) (hslots : t.slots = s.slots) :
    RunningInv t where
  lowWaterOk := hcfg ▸ h.lowWaterOk
  windowsOk := hcfg ▸ h.windowsOk
  fixedOk := hcfg ▸ h.fixedOk
  cacheHalted := fun hf => hsync ▸ h.cacheHalted (hfault hf)
  aboveLowWater := by rw [hcfg, hsync]; exact h.aboveLowWater
  btnRunning := by rw [hcfg, hbtn]; exact h.btnRunning
  burstOpen := by rw [hcfg, hburst]; exact h.burstOpen
  alarmRunning := by rw [hcfg, halarm]; exact h.alarmRunning
  presentable := hslots ▸ h.presentable

theorem tick_running {s : State} (h : RunningInv s) : RunningInv (tick s) := by
  obtain ⟨hd, hd', ha, ha', hw, hw'⟩ := (windowsOk_iff s.cfg).1 h.windowsOk
  have hcfg := tick_cfg s
  exact {
    lowWaterOk := hcfg ▸ h.lowWaterOk
    windowsOk := hcfg ▸ h.windowsOk
    fixedOk := hcfg ▸ h.fixedOk
    cacheHalted := tick_cacheHalted s
    aboveLowWater := by rw [hcfg]; exact tick_aboveLowWater s h.fixedOk
    btnRunning := by
      rw [hcfg, tick_input, tickPrologue_input, caSample_btnRun]
      exact toNat_ofNat_debounce_run_lt hd (by omega) _ _ _
    burstOpen := by
      rw [hcfg, tick_input, tickPrologue_input, caSample_input]
      exact aggregate_burstAge_lt ha ha' _ _ h.burstOpen
    alarmRunning := by
      rw [hcfg, tick_alarm, tickPrologue_alarm]
      exact toNat_ofNat_debounce_run_lt hw (by omega) _ _ _
    presentable := by rw [tick_slots]; exact h.presentable }

theorem land_running (x : Interrupt) (s : State) (h : RunningInv s) : RunningInv (land x s) := by
  cases x with
  | tick l => exact tick_running (h.of_same (t := present l s) rfl rfl id rfl rfl rfl rfl)
  | knob d => exact h.of_same rfl rfl id rfl rfl rfl rfl

theorem boundary_running {s : State} (h : RunningInv s) : RunningInv (boundary s) :=
  boundary_induction RunningInv land_running (fun _ _ ht => ht.of_same rfl rfl id rfl rfl rfl rfl) s h

/-! ### A whole `UICYC` keeps them -/

theorem uiSample_running {s : State} (h : RunningInv s) : RunningInv (uiSample s) := by
  have hClicks : RunningInv (caRead s) := h.of_same rfl rfl id rfl rfl rfl rfl
  have hKnob : RunningInv (rotGet (boundary (caRead s))) :=
    (boundary_running hClicks).of_same rfl rfl id rfl rfl rfl rfl
  have hTime : RunningInv (sampleTime (boundary (rotGet (boundary (caRead s))))) :=
    (boundary_running hKnob).of_same rfl rfl id rfl rfl rfl rfl
  exact (boundary_running hTime).of_same rfl rfl id rfl rfl rfl rfl

theorem uiActivity_running {s : State} (h : RunningInv s) : RunningInv (uiActivity s) := by
  rw [uiActivity_eq]
  exact h.of_same rfl rfl id rfl rfl rfl rfl

theorem uiPend_running {s : State} (h : RunningInv s) : RunningInv (uiPend s) := by
  rw [uiPend_eq]
  exact h.of_same rfl rfl id rfl rfl rfl rfl

@[simp] theorem performOp_btnRun (x : UiOp) (s : State) : (performOp x s).input.btnRun = s.input.btnRun := by
  cases x <;> rfl

@[simp] theorem performOp_burstAge (x : UiOp) (s : State) : (performOp x s).input.burstAge = s.input.burstAge := by
  cases x <;> rfl

/-- No transition latches a fault (R166). -/
theorem latched_of_performOp (x : UiOp) (s : State) (h : (performOp x s).shared.fault ≠ .none) :
    s.shared.fault ≠ .none := by
  by_cases hx : x = .faultClear
  · subst hx
    exact absurd rfl h
  · rwa [performOp_shared x s hx] at h

theorem performOp_running (x : UiOp) {s : State} (h : RunningInv s) : RunningInv (performOp x s) :=
  h.of_same (performOp_cfg x s) (performOp_sync x s) (latched_of_performOp x s)
    (performOp_btnRun x s) (performOp_burstAge x s) (performOp_alarm x s) (performOp_slots x s)

theorem sendDisplay_running (r : BitVec 3) (v : Byte) {s : State} (h : RunningInv s) :
    RunningInv (sendDisplay r v s) := h.of_same rfl rfl id rfl rfl rfl rfl

theorem uiRender_running {s : State} (h : RunningInv s) : RunningInv (uiRender s) := by
  unfold uiRender showPicture
  iterate 4 refine sendDisplay_running _ _ (boundary_running ?_)
  exact sendDisplay_running _ _ h

theorem uiOutput_running {s : State} (h : RunningInv s) : RunningInv (uiOutput s) := by
  have hRatio : RunningInv (outputRatio s) := h.of_same rfl rfl id rfl rfl rfl rfl
  exact (boundary_running hRatio).of_same rfl rfl id rfl rfl rfl rfl

theorem uicyc_running {s : State} (h : RunningInv s) : RunningInv (uicyc s) := by
  have hActivity := uiActivity_running (boundary_running (uiSample_running h))
  have hDecode : RunningInv (uiDecode (boundary (uiActivity (boundary (uiSample s))))) :=
    (boundary_running hActivity).of_same rfl rfl id rfl rfl rfl rfl
  have hTrans := performOp_running (beforeTrans s).ul.op
    (show RunningInv (beforeTrans s) from boundary_running (uiPend_running (boundary_running hDecode)))
  exact uiOutput_running (boundary_running (uiRender_running (boundary_running hTrans)))

/-! ### The transition a `UICYC` picks -/

/-- The state register after the transition operation of a row (R166). -/
def stateAfter (x : UiOp) (st : UiState) : UiState :=
  match x with
  | .faultEnterI | .faultEnterU | .faultEnterV => .fault
  | .editUnits => .changeUnits
  | .editValue | .commitUnits => .changeValue
  | .faultClear | .commitValue | .timeoutU | .timeoutV => .idle
  | .faultHold | .nopF | .nopI | .nopU | .nopV => st

theorem performOp_state (x : UiOp) (s : State) : (performOp x s).ui.state = stateAfter x s.ui.state := by
  cases x <;> rfl

/-- A cycle leaves the controller in Fault only from a sampled fault or from Fault (R187). -/
theorem stateAfter_tableT_fault {quad c : Nat} {st : UiState} {f tmo : Bool}
    (h : stateAfter (tableT quad st f c tmo) st = .fault) : f = true ∨ st = .fault := by
  cases st with
  | fault => exact .inr rfl
  | idle | changeUnits | changeValue =>
    cases f with
    | true => exact .inl rfl
    | false =>
      simp only [tableT] at h
      repeat' split at h
      all_goals cases h

/-- A cycle leaves the controller in ChangeValue by an entry, by a commit of the units, or by staying there (R187). -/
theorem stateAfter_tableT_changeValue {quad c : Nat} {st : UiState} {f tmo : Bool}
    (h : stateAfter (tableT quad st f c tmo) st = .changeValue) :
    tableT quad st f c tmo = .editValue ∨ tableT quad st f c tmo = .commitUnits ∨
      (tableT quad st f c tmo = .nopV ∧ st = .changeValue) := by
  generalize hx : tableT quad st f c tmo = x at h
  cases x with
  | editValue => exact .inl rfl
  | commitUnits => exact .inr (.inl rfl)
  | nopV => exact .inr (.inr ⟨rfl, h⟩)
  | faultHold | nopF | nopI | nopU =>
    obtain rfl : st = .changeValue := h
    cases f with
    | true => cases hx
    | false =>
      simp only [tableT] at hx
      repeat' split at hx
      all_goals cases hx
  | _ => cases h

/-- `UI.SAMPLE` reads the latch last, so that the sampled fault is the one latched at its end (R164). -/
theorem uiSample_fs (s : State) : (uiSample s).ul.fs = (uiSample s).shared.fault := rfl

@[simp] theorem uiDecode_st (s : State) : (uiDecode s).ul.st = s.ui.state := rfl

@[simp] theorem uiDecode_fs (s : State) : (uiDecode s).ul.fs = s.ul.fs := rfl

@[simp] theorem uiDecode_cfg (s : State) : (uiDecode s).cfg = s.cfg := rfl

/-- The row of Table T that a cycle picks, with the sampled fault (R187). -/
theorem beforeTrans_op (s : State) : ∃ tmo, (beforeTrans s).ul.op =
    tableT s.cfg.quad s.ui.state (latched (uiSample s).shared.fault) s.input.clicksOut.toNat tmo := by
  simp [beforeTrans, ← uiSample_fs]

/-- A fault latched when it is sampled is latched when the transition is performed. -/
theorem beforeTrans_latched_of_sampled (s : State) (h : (uiSample s).shared.fault ≠ .none) :
    (beforeTrans s).shared.fault ≠ .none := by
  have hActivity : (uiActivity (boundary (uiSample s))).shared.fault ≠ .none := by
    rw [uiActivity_shared]
    exact boundary_latched _ h
  have hPend : (uiPend (boundary (uiDecode (boundary (uiActivity (boundary (uiSample s))))))).shared.fault ≠ .none := by
    rw [uiPend_shared]
    exact boundary_latched _ (boundary_latched _ hActivity)
  exact boundary_latched _ hPend

/-- A fault latched after the transition is latched when the cycle ends. -/
theorem uicyc_latched_of_trans (s : State) (h : (uiTrans (beforeTrans s)).shared.fault ≠ .none) :
    (uicyc s).shared.fault ≠ .none := by
  rw [uicyc_eq_beforeTrans]
  exact uiOutput_latched _ (boundary_latched _ (uiRender_latched _ (boundary_latched _ h)))

@[simp] theorem uicyc_cfg (s : State) : (uicyc s).cfg = s.cfg := by simp [uicyc, uiTrans]

@[simp] theorem beforeTrans_cfg (s : State) : (beforeTrans s).cfg = s.cfg := by simp [beforeTrans]

/-- The pair a cycle ends with is its active selection's (R45, R186). -/
theorem uicyc_pair (s : State) : (uicyc s).shared.ratio = (selectedRow s.cfg (uicyc s).ui.active).ratio ∧
    (uicyc s).shared.reverse = (uicyc s).ui.active.reverse := by
  simp [uicyc, uiTrans]

/-- A cycle that ends in Fault ends with a fault latched (R49). -/
theorem uicyc_faultShown (s : State) (hinv : s.ui.state = .fault → s.shared.fault ≠ .none)
    (h : (uicyc s).ui.state = .fault) : (uicyc s).shared.fault ≠ .none := by
  obtain ⟨tmo, hop⟩ := beforeTrans_op s
  rw [uicyc_ui, performOp_state, beforeTrans_state, hop] at h
  have hsampled : (uiSample s).shared.fault ≠ .none :=
    (stateAfter_tableT_fault h).elim (latched_iff _).1 fun hst => uiSample_latched s (hinv hst)
  have hkeep : (beforeTrans s).ul.op ≠ .faultClear := by
    rw [hop]
    intro hclear
    rw [hclear] at h
    cases h
  exact uicyc_latched_of_trans s (uiTrans_latched _ (beforeTrans_latched_of_sampled s hsampled) hkeep)

/-- A transition that seeds the value leaves it in range of the active units' table (R32, R178). -/
theorem performOp_seeds_inRange (x : UiOp) (s : State) (hx : x = .editValue ∨ x = .commitUnits) :
    (performOp x s).ui.pending.value.toNat ≤ lastRow s.cfg (performOp x s).ui.active.units := by
  rcases hx with rfl | rfl
  · exact (seedValue_pending_toNat s).le.trans (min_le_right _ _)
  · exact (seedValue_pending_toNat (promoteUnits s)).le.trans (min_le_right _ _)

/-- A transition that stays in ChangeValue leaves what `UI.PEND` staged (R32, R165). -/
theorem beforeTrans_inRange (s : State) (hop : (beforeTrans s).ul.op = .nopV) (hst : s.ui.state = .changeValue) :
    (beforeTrans s).ui.pending.value.toNat ≤ lastRow s.cfg (beforeTrans s).ui.active.units := by
  rw [beforeTrans, boundary_ul, uiPend_ul] at hop
  have hpend := uiPend_inRange (boundary (uiDecode (boundary (uiActivity (boundary (uiSample s))))))
    (by rw [hop]; rfl) (by simpa using hst)
  simpa [beforeTrans] using hpend

/-- A cycle that ends in ChangeValue ends with the pending value in its table (R32). -/
theorem uicyc_pendingInRange (s : State) (h : (uicyc s).ui.state = .changeValue) :
    (uicyc s).ui.pending.value.toNat ≤ lastRow s.cfg (uicyc s).ui.active.units := by
  obtain ⟨tmo, hop⟩ := beforeTrans_op s
  rw [uicyc_ui, performOp_state, beforeTrans_state, hop] at h
  rw [uicyc_ui]
  rcases stateAfter_tableT_changeValue h with hx | hx | ⟨hx, hst⟩ <;> rw [← hop] at hx
  · exact beforeTrans_cfg s ▸ performOp_seeds_inRange _ _ (.inl hx)
  · exact beforeTrans_cfg s ▸ performOp_seeds_inRange _ _ (.inr hx)
  · rw [hx]
    exact beforeTrans_inRange s hx hst

/-! ### Every event keeps the invariant -/

theorem uicyc_keeps_blockInv {s : State} (h : BlockInv s) : BlockInv (uicyc s) := by
  have hrun := uicyc_running h.running
  have hcfg := uicyc_cfg s
  obtain ⟨hratio, hreverse⟩ := uicyc_pair s
  exact {
    lowWaterOk := hrun.lowWaterOk
    windowsOk := hrun.windowsOk
    fixedOk := hrun.fixedOk
    faultShown := uicyc_faultShown s h.faultShown
    cacheHalted := hrun.cacheHalted
    ratioCommitted := by rw [hcfg]; exact hratio
    reverseCommitted := hreverse
    pendingInRange := by rw [hcfg]; exact uicyc_pendingInRange s
    aboveLowWater := hrun.aboveLowWater
    btnRunning := hrun.btnRunning
    burstOpen := hrun.burstOpen
    alarmRunning := hrun.alarmRunning
    presentable := hrun.presentable }

theorem tick_keeps_blockInv {s : State} (h : BlockInv s) : BlockInv (tick s) := by
  have hrun := tick_running h.running
  have hcfg := tick_cfg s
  have hui := tick_ui s
  exact {
    lowWaterOk := hrun.lowWaterOk
    windowsOk := hrun.windowsOk
    fixedOk := hrun.fixedOk
    faultShown := fun hst => tick_latched s (h.faultShown (hui ▸ hst))
    cacheHalted := hrun.cacheHalted
    ratioCommitted := by rw [hcfg, hui, tick_ratio]; exact h.ratioCommitted
    reverseCommitted := by rw [hui, tick_reverse]; exact h.reverseCommitted
    pendingInRange := by rw [hcfg, hui]; exact h.pendingInRange
    aboveLowWater := hrun.aboveLowWater
    btnRunning := hrun.btnRunning
    burstOpen := hrun.burstOpen
    alarmRunning := hrun.alarmRunning
    presentable := hrun.presentable }

/-- The block after `RESET` has the invariant whatever held before, if the parameters meet their constraints. -/
theorem resetBlock_blockInv {s : State} (hlow : s.cfg.lowWaterOk = true) (hwindows : s.cfg.windowsOk = true)
    (hfixed : s.cfg.fixedOk = true) (hslots : ∀ x ∈ s.slots, Presentable x) : BlockInv (resetBlock s) := by
  obtain ⟨hd, -, ha, -, hw, -⟩ := (windowsOk_iff s.cfg).1 hwindows
  have hmark : s.cfg.lowWater.toNat < s.cfg.bias.toNat := by
    simp only [Params.lowWaterOk, Bool.and_eq_true, decide_eq_true_eq] at hlow
    exact hlow.2
  exact {
    lowWaterOk := hlow
    windowsOk := hwindows
    fixedOk := hfixed
    faultShown := nofun
    cacheHalted := fun _ => rfl
    ratioCommitted := rfl
    reverseCommitted := rfl
    pendingInRange := nofun
    aboveLowWater := fun _ => hmark.le
    btnRunning := hd
    burstOpen := ha
    alarmRunning := hw
    presentable := hslots }

/-- The invariant does not speak of the levels, the landings ahead, the emitted commands or the knob. -/
theorem accept_keeps_blockInv {s : State} {x : Slot} {rest : List Slot} (h : BlockInv s)
    (hslots : s.slots = x :: rest) : BlockInv (accept x rest s) :=
  { h with presentable := fun y hy => h.presentable y (hslots ▸ List.mem_cons_of_mem x hy) }

theorem rotMove_keeps_blockInv {s : State} (d : Word16) (h : BlockInv s) : BlockInv (rotMove d s) := { h with }

/-- The instructions of the two ports that the scheduler and the knob present words on (R90). -/
theorem exec_presented_keeps_blockInv {i : Instr} {s t : State} (hport : i.port = .ev ∨ i.port = .env)
    (h : BlockInv s) (hexec : exec i s = .next t) : BlockInv t := by
  cases i with
  | reset => cases hexec; exact resetBlock_blockInv h.lowWaterOk h.windowsOk h.fixedOk h.presentable
  | noevent => cases hexec; exact h
  | uicyc => cases hexec; exact uicyc_keeps_blockInv h
  | tick => cases hexec; exact tick_keeps_blockInv h
  | tickUicyc =>
    obtain rfl : uicyc (tick s) = t := Host.Outcome.next.inj hexec
    exact uicyc_keeps_blockInv (tick_keeps_blockInv h)
  | rotMove d => cases hexec; exact rotMove_keeps_blockInv d h
  | _ => simp [Instr.port] at hport

/-- Settles O59: a presentation is of one of the two ports, so its instruction is one of six, and each keeps the
invariant. -/
theorem everyStepKeepsTheBlockInvariant : Obligations.EveryStepKeepsTheBlockInvariant := by
  intro s t h hstep
  cases hslots : s.slots with
  | nil =>
    rw [stepWithoutAnInstruction.1 s hslots] at hstep
    cases hstep
    exact { h with }
  | cons x rest =>
    cases hword : decode x.port x.word with
    | error e =>
      rw [stepWithoutAnInstruction.2 s x rest e hslots hword] at hstep
      cases hstep
    | ok i =>
      rw [stepRunsTheDecodedInstruction s x rest i hslots hword] at hstep
      obtain ⟨hport, -⟩ := decodedInstructionBelongsToItsPort x.port x.word i hword
      have hpresented : Presentable x := h.presentable x (hslots ▸ List.mem_cons_self)
      exact exec_presented_keeps_blockInv (by rwa [hport]) (accept_keeps_blockInv h hslots) hstep

/-! ### The reset state -/

/-- The reset state is a fixed point of `RESET`, because `RESET` sets the elements to the same column. -/
theorem resetBlock_reset : resetBlock State.reset = State.reset := rfl

/-- Settles O60: the reference parameters meet their constraints, and nothing is presented. -/
theorem resetHasTheBlockInvariant : Obligations.ResetHasTheBlockInvariant := by
  have hfixed : Config.params.fixedOk = true := (fixedOk_iff _).2 ⟨rfl, rfl, rfl, rfl, rfl, rfl, rfl, rfl, rfl⟩
  have hinv : BlockInv (resetBlock State.reset) := resetBlock_blockInv rfl rfl hfixed nofun
  rwa [resetBlock_reset] at hinv

/-- Settles O8: the fixed point, and the rows of Table P read off. -/
theorem resetStateIsWhatResetGives : Obligations.ResetStateIsWhatResetGives := by
  refine ⟨congrArg Host.Outcome.next resetBlock_reset, ?_⟩
  exact ⟨rfl, rfl, rfl, rfl, rfl, rfl, rfl, rfl, rfl, rfl, rfl, rfl, rfl, rfl, rfl, rfl,
    resetHasTheBlockInvariant.fixedOk, rfl, rfl⟩

end Sys2Proof.Machine
end

section
/-! PROOF. A whole `UICYC` (41_ui_controller.md R161 to R190): what it ends with whatever lands inside it, what it
leaves with nothing landing, and the runs of the controller that the document names. -/

namespace Sys2Proof.Machine

/-! ### Whatever lands inside -/

/-- Settles O23: a cycle that cannot pick the clear keeps a latched fault. -/
theorem onlyAQuadClickInFaultClears : Obligations.OnlyAQuadClickInFaultClears := by
  refine ⟨rfl, fun s t h hlatched hcleared => ?_⟩
  obtain rfl : uicyc s = t := Host.Outcome.next.inj h
  by_contra hclear
  exact uicyc_latched s hlatched hclear hcleared

@[simp] theorem uiDecode_slots (s : State) : (uiDecode s).slots = s.slots := rfl

@[simp] theorem uiDecode_c (s : State) : (uiDecode s).ul.c = s.ul.c := rfl

@[simp] theorem uiDecode_r (s : State) : (uiDecode s).ul.r = s.ul.r := rfl

theorem uicyc_slots (s : State) : (uicyc s).slots = s.slots := by simp [uicyc, uiTrans]

theorem uicyc_c (s : State) : (uicyc s).ul.c = s.input.clicksOut := by simp [uicyc, uiTrans]

/-- Settles O43: no landing writes the selection, the click count of the cycle or the pair. -/
theorem uicycOutputsTheActiveSelection : Obligations.UicycOutputsTheActiveSelection := by
  intro s
  obtain ⟨hratio, hreverse⟩ := uicyc_pair s
  exact ⟨uicyc s, rfl, uicyc_cfg s, uicyc_slots s, uicyc_c s, hratio, hreverse⟩

/-- With no click Table T picks neither commit (R187). -/
theorem tableT_no_click (quad : Nat) (st : UiState) (f tmo : Bool) :
    tableT quad st f 0 tmo ≠ .commitUnits ∧ tableT quad st f 0 tmo ≠ .commitValue := by
  cases st with
  | idle => cases f <;> simp [tableT]
  | fault => simp [tableT]
  | changeUnits | changeValue =>
    cases f with
    | true => simp [tableT]
    | false => cases tmo <;> simp [tableT]

/-- A cycle whose transition is not a commit ends with the active selection of its start (R190). -/
theorem uicyc_active_of_not_commit (s : State) (hu : (beforeTrans s).ul.op ≠ .commitUnits)
    (hv : (beforeTrans s).ul.op ≠ .commitValue) : (uicyc s).ui.active = s.ui.active := by
  rw [uicyc_ui, performOp_active _ _ hu hv, beforeTrans_active]

/-- Settles O45: without a click no commit is picked. -/
theorem noCommitWithoutAClick : Obligations.NoCommitWithoutAClick := by
  intro s hc
  obtain ⟨tmo, hop⟩ := beforeTrans_op s
  have hzero : s.input.clicksOut.toNat = 0 := congrArg BitVec.toNat hc
  rw [hzero] at hop
  obtain ⟨hu, hv⟩ := tableT_no_click s.cfg.quad s.ui.state (latched (uiSample s).shared.fault) tmo
  have hactive := uicyc_active_of_not_commit s (hop ▸ hu) (hop ▸ hv)
  obtain ⟨hratio, hreverse⟩ := uicyc_pair s
  exact ⟨uicyc s, rfl, hactive, hactive ▸ hratio, hactive ▸ hreverse⟩

/-! ### With nothing landing -/

/-- A step of the UI context after its reads: the shared fields, its own state, the display, the record and the knob
(R68). -/
def UiWrites (s t : State) : Prop :=
  t = { s with shared := t.shared, ui := t.ui, ul := t.ul, display := t.display, out := t.out
               input := { s.input with rot := t.input.rot } }

theorem UiWrites.trans {s t u : State} (hst : UiWrites s t) (htu : UiWrites t u) : UiWrites s u := by
  unfold UiWrites at *
  rw [htu, hst]

theorem UiWrites.landings {s t : State} (h : UiWrites s t) : t.landings = s.landings := by rw [h]

theorem uiActivity_writes (s : State) : UiWrites s (uiActivity s) := by
  unfold UiWrites
  rw [uiActivity_eq]
  rfl

theorem uiPend_writes (s : State) : UiWrites s (uiPend s) := by
  unfold UiWrites
  rw [uiPend_eq]

theorem performOp_writes (x : UiOp) (s : State) : UiWrites s (performOp x s) := by cases x <;> rfl

/-- With nothing ahead the state in which the transition is performed is the four phases before it alone. -/
theorem beforeTrans_of_nil (s : State) (h : s.landings = []) :
    beforeTrans s = uiPend (uiDecode (uiActivity (uiSample s))) := by
  have hSample : (uiSample s).landings = [] := uiSample_landings_of_nil s h
  have hActivity : (uiActivity (uiSample s)).landings = [] := by rwa [uiActivity_landings]
  have hDecode : (uiDecode (uiActivity (uiSample s))).landings = [] := hActivity
  have hPend : (uiPend (uiDecode (uiActivity (uiSample s)))).landings = [] := by rwa [uiPend_landings]
  rw [beforeTrans, boundary_of_nil _ hSample, boundary_of_nil _ hActivity, boundary_of_nil _ hDecode,
    boundary_of_nil _ hPend]

theorem beforeTrans_writes (s : State) (h : s.landings = []) : UiWrites (uiSample s) (beforeTrans s) := by
  rw [beforeTrans_of_nil s h]
  have hdecode : UiWrites (uiActivity (uiSample s)) (uiDecode (uiActivity (uiSample s))) := rfl
  exact ((uiActivity_writes _).trans hdecode).trans (uiPend_writes _)

theorem uiTrans_beforeTrans_landings_of_nil (s : State) (h : s.landings = []) :
    (uiTrans (beforeTrans s)).landings = [] := by
  rw [uiTrans, performOp_landings, (beforeTrans_writes s h).landings, uiSample_landings_of_nil s h]

/-- With nothing ahead the cycle is its phases alone. -/
theorem uicyc_of_nil (s : State) (h : s.landings = []) :
    uicyc s = outputReverse (outputRatio (uiRender (uiTrans (beforeTrans s)))) := by
  have hTrans := uiTrans_beforeTrans_landings_of_nil s h
  have hRender := uiRender_landings_of_nil _ hTrans
  rw [uicyc_eq_beforeTrans, boundary_of_nil _ hTrans, boundary_of_nil _ hRender, uiOutput_of_nil _ hRender]

theorem sendDisplay_writes (r : BitVec 3) (v : Byte) (s : State) : UiWrites s (sendDisplay r v s) := rfl

/-- With nothing ahead `UI.RENDER` writes the display and the record alone (R185). -/
theorem uiRender_writes (s : State) (h : s.landings = []) :
    UiWrites s (uiRender s) ∧ (uiRender s).input = s.input ∧ (uiRender s).shared = s.shared := by
  rw [uiRender_of_nil s h]
  refine ⟨?_, by simp only [sendDisplay_input], by simp only [sendDisplay_shared]⟩
  iterate 4 refine UiWrites.trans ?_ (sendDisplay_writes _ _ _)
  exact sendDisplay_writes _ _ s

/-- The two writes of `UI.OUTPUT` leave the knob and the latch (R186). -/
theorem outputs_write (s : State) : UiWrites s (outputReverse (outputRatio s)) ∧
    (outputReverse (outputRatio s)).input = s.input ∧
    (outputReverse (outputRatio s)).shared.fault = s.shared.fault := ⟨rfl, rfl, rfl⟩

theorem uicyc_tail_writes (s : State) (h : s.landings = []) :
    UiWrites (uiTrans (beforeTrans s)) (uicyc s) ∧ (uicyc s).input = (uiTrans (beforeTrans s)).input ∧
      (uicyc s).shared.fault = (uiTrans (beforeTrans s)).shared.fault := by
  obtain ⟨hRender, hInput, hShared⟩ := uiRender_writes _ (uiTrans_beforeTrans_landings_of_nil s h)
  obtain ⟨hOutput, hInput', hFault⟩ := outputs_write (uiRender (uiTrans (beforeTrans s)))
  rw [uicyc_of_nil s h]
  exact ⟨hRender.trans hOutput, hInput'.trans hInput, hFault.trans (congrArg Shared.fault hShared)⟩

/-- With nothing ahead a cycle is the reads and then steps of the UI context (R68). -/
theorem uicyc_writes (s : State) (h : s.landings = []) : UiWrites (uiSample s) (uicyc s) :=
  ((beforeTrans_writes s h).trans (performOp_writes _ _)).trans (uicyc_tail_writes s h).1

/-- Settles O44: the reads consume the clicks, and every later phase is a step of the UI context. -/
theorem uicycLeavesTheTickContext : Obligations.UicycLeavesTheTickContext := by
  refine fun s h => ⟨uicyc s, rfl, ?_⟩
  have hwrites := uicyc_writes s h
  rw [uiSample_of_nil s h] at hwrites
  exact hwrites

/-! ### The fault clear -/

/-- With nothing ahead the latch is what it was until the transition. -/
theorem beforeTrans_shared_of_nil (s : State) (h : s.landings = []) : (beforeTrans s).shared = s.shared := by
  rw [beforeTrans_of_nil s h, uiPend_shared, uiSample_of_nil s h]
  exact uiActivity_shared _

/-- Settles O47: above `QUAD` clicks the cycle picks the clear, and up to it a row that writes nothing. -/
theorem faultClearIsGated : Obligations.FaultClearIsGated := by
  refine ⟨rfl, fun s h hst => ⟨uicyc s, rfl, ?_⟩⟩
  obtain ⟨-, -, hfault⟩ := uicyc_tail_writes s h
  have hstate := beforeTrans_state s
  have hshared := beforeTrans_shared_of_nil s h
  obtain ⟨tmo, hop⟩ := beforeTrans_op s
  rw [uicyc_ui, hfault, uiTrans]
  rw [hst] at hstate hop
  by_cases hquad : s.cfg.quad < s.input.clicksOut.toNat
  · have hclear : (beforeTrans s).ul.op = .faultClear := (beforeTrans_op_eq_faultClear_iff s).2 ⟨hst, hquad⟩
    rw [hclear]
    exact ⟨beforeTrans_active s, fun hle => absurd hquad (Nat.not_lt.2 hle), fun _ => ⟨rfl, rfl⟩⟩
  · have hhold : performOp (beforeTrans s).ul.op (beforeTrans s) = beforeTrans s := by
      rw [hop, tableT, if_neg hquad]
      split <;> rfl
    rw [hhold, hshared]
    exact ⟨beforeTrans_active s, fun _ => ⟨hstate, rfl⟩, fun hgt => absurd hgt hquad⟩

/-! ### The round trip -/

/-- The row that a cycle with nothing landing and no fault picks (R187). -/
theorem beforeTrans_op_of_no_fault (s : State) (h : s.landings = []) (hf : s.shared.fault = .none) :
    ∃ tmo, (beforeTrans s).ul.op = tableT s.cfg.quad s.ui.state false s.input.clicksOut.toNat tmo := by
  obtain ⟨tmo, hop⟩ := beforeTrans_op s
  have hlatch : latched (uiSample s).shared.fault = false := by
    rw [uiSample_of_nil s h]
    exact (latched_eq_false_iff _).2 hf
  exact ⟨tmo, hlatch ▸ hop⟩

/-- Such a cycle leaves nothing ahead and no fault. -/
theorem uicyc_keeps_quiet (s : State) (h : s.landings = []) (hf : s.shared.fault = .none) :
    (uicyc s).landings = [] ∧ (uicyc s).shared.fault = .none := by
  refine ⟨(uicyc_writes s h).landings.trans (uiSample_landings_of_nil s h), ?_⟩
  rw [(uicyc_tail_writes s h).2.2, uiTrans]
  by_contra hlatched
  exact latched_of_performOp _ _ hlatched ((congrArg Shared.fault (beforeTrans_shared_of_nil s h)).trans hf)

/-- What the staging of a cycle with nothing landing reads: the register at its start and the picked row. -/
theorem pend_reads (s : State) (h : s.landings = []) :
    (uiDecode (uiActivity (uiSample s))).ul.r = s.input.rot ∧
      (uiDecode (uiActivity (uiSample s))).ul.op = (beforeTrans s).ul.op := by
  rw [beforeTrans_of_nil s h, uiPend_ul, uiDecode_r, uiActivity_ul]
  refine ⟨?_, rfl⟩
  rw [uiSample_of_nil s h]
  rfl

/-- From Idle two clicks open the units, with the register at the active ones (R170). -/
theorem uicyc_opens_units (s : State) (h : s.landings = []) (hf : s.shared.fault = .none) (hst : s.ui.state = .idle)
    (hc : s.input.clicksOut = 2#8) : (uicyc s).ui.state = .changeUnits ∧ (uicyc s).ui.active = s.ui.active ∧
      (uicyc s).input.rot = s.ui.active.units.setWidth 16 := by
  obtain ⟨tmo, hop⟩ := beforeTrans_op_of_no_fault s h hf
  rw [hst, hc] at hop
  rw [uicyc_ui, (uicyc_tail_writes s h).2.1, uiTrans, hop, ← beforeTrans_active s]
  exact ⟨rfl, rfl, rfl⟩

/-- In ChangeUnits a click promotes the clamped register and opens the value, with the register at its code (R165,
R172). -/
theorem uicyc_commits_units (s : State) (u : Units) (h : s.landings = []) (hf : s.shared.fault = .none)
    (hst : s.ui.state = .changeUnits) (hc : s.input.clicksOut = 1#8)
    (hu : BitVec.ofInt 2 (clampUnits s.cfg.unitsMin s.cfg.unitsMax s.input.rot) = u) :
    (uicyc s).ui.state = .changeValue ∧ (uicyc s).ui.active = { s.ui.active with units := u } ∧
      (uicyc s).input.rot = rotEncode (BitVec.ofNat 15 (rowIdx s.cfg u s.ui.active.value)) s.ui.active.reverse := by
  obtain ⟨tmo, hop⟩ := beforeTrans_op_of_no_fault s h hf
  rw [hst, hc] at hop
  obtain ⟨hr, hop'⟩ := pend_reads s h
  have hstaged : (beforeTrans s).ui.pending.units = u := by
    rw [beforeTrans_of_nil s h, uiPend_of_changeUnits _ (by rw [hop', hop]; rfl) (by simpa using hst), ← hu, ← hr]
    rcases pendUnits_cases (uiDecode (uiActivity (uiSample s))) _ rfl with ⟨-, hp⟩ | ⟨-, hp⟩ <;> rw [hp]
    · simp
    · simp
  rw [uicyc_ui, (uicyc_tail_writes s h).2.1, uiTrans, hop, ← beforeTrans_active s, ← beforeTrans_cfg s, ← hstaged]
  exact ⟨rfl, rfl, rfl⟩

/-- In ChangeValue a click promotes the decoded register, if it is in its table (R165, R173). -/
theorem uicyc_commits_value (s : State) (m : RowIndex) (rev : Bool) (h : s.landings = [])
    (hf : s.shared.fault = .none) (hst : s.ui.state = .changeValue) (hc : s.input.clicksOut = 1#8)
    (hd : rotDecode s.input.rot = (m, rev)) (hm : m.toNat ≤ lastRow s.cfg s.ui.active.units) :
    (uicyc s).ui.state = .idle ∧ (uicyc s).ui.active = { s.ui.active with value := m, reverse := rev } := by
  obtain ⟨tmo, hop⟩ := beforeTrans_op_of_no_fault s h hf
  rw [hst, hc] at hop
  obtain ⟨hr, hop'⟩ := pend_reads s h
  have hstaged : (beforeTrans s).ui.pending.value = m ∧ (beforeTrans s).ui.pending.reverse = rev := by
    rw [beforeTrans_of_nil s h, uiPend_of_changeValue _ (by rw [hop', hop]; rfl) (by simpa using hst)]
    rcases pendValue_cases _ _ m rev rfl (hr ▸ hd) with ⟨-, hp⟩ | ⟨hlt, -⟩
    · rw [hp]
      exact ⟨rfl, rfl⟩
    · simp at hlt
      omega
  obtain ⟨hvalue, hreverse⟩ := hstaged
  rw [uicyc_ui, hop, ← beforeTrans_active s, ← hvalue, ← hreverse]
  exact ⟨rfl, rfl⟩

/-- One click reported before a cycle. -/
def oneClick (s : State) : State := s.setInput { s.input with clicksOut := 1#8 }

@[simp] theorem oneClick_cfg (s : State) : (oneClick s).cfg = s.cfg := rfl
@[simp] theorem oneClick_ui (s : State) : (oneClick s).ui = s.ui := rfl
@[simp] theorem oneClick_rot (s : State) : (oneClick s).input.rot = s.input.rot := rfl

/-- Settles O48: the three cycles one after the other, each by the transition its clicks pick. -/
theorem uiRoundTrip : Obligations.UiRoundTrip := by
  intro s hfixed h hst hf hsize hactive hc
  obtain ⟨-, -, -, hmin, hmax, -⟩ := (fixedOk_iff _).1 hfixed
  obtain ⟨haState, haActive, haRot⟩ := uicyc_opens_units s h hf hst hc
  obtain ⟨haLandings, haFault⟩ := uicyc_keeps_quiet s h hf
  have haCfg := uicyc_cfg s
  rw [hactive] at haActive haRot
  refine ⟨uicyc s, uicyc (oneClick (uicyc s)), uicyc (oneClick (uicyc (oneClick (uicyc s)))), rfl, haState, haRot,
    rfl, ?_⟩
  generalize uicyc s = a at *
  have hrow : rowIdx a.cfg 0#2 5#15 = 5 := by
    rw [haCfg]
    exact rowIdx_of_lt s.cfg 0#2 5#15 hsize
  obtain ⟨hbState, hbActive, hbRot⟩ := uicyc_commits_units (oneClick a) 0#2 haLandings haFault haState rfl
    (by rw [oneClick_cfg, haCfg, hmin, hmax, oneClick_rot, haRot]; rfl)
  obtain ⟨hbLandings, hbFault⟩ := uicyc_keeps_quiet (oneClick a) haLandings haFault
  have hbCfg := uicyc_cfg (oneClick a)
  rw [oneClick_ui, haActive] at hbActive
  rw [oneClick_ui, haActive, oneClick_cfg, hrow] at hbRot
  refine ⟨hbState, hbRot, rfl, ?_⟩
  generalize uicyc (oneClick a) = b at *
  obtain ⟨hcState, hcActive⟩ := uicyc_commits_value (oneClick b) 5#15 false hbLandings hbFault hbState rfl
    (by rw [oneClick_rot, hbRot]; decide)
    (by
      rw [oneClick_ui, hbActive, oneClick_cfg, hbCfg, oneClick_cfg, haCfg]
      exact Nat.le_sub_one_of_lt hsize)
  rw [oneClick_ui, hbActive] at hcActive
  exact ⟨hcState, hcActive.trans hactive.symm⟩

end Sys2Proof.Machine
end

section
/-! PROOF. The values that one `TICK` or one `UICYC` carries between its phases are no state (R20): each writes its own
before it reads them, whatever lands in between. -/

namespace Sys2Proof.Machine

/-! ### A `TICK` and its own values -/

/-- After the measuring phases only the three values that no phase has written yet are still the old ones. -/
theorem measured_setTl (s : State) (x : TickLocals) : measured (s.setTl x) = (measured s).setTl { (measured s).tl with
    target := x.target, steps := x.steps, absSteps := x.absSteps } := rfl

/-- `SYN.ACCUM` reads the filter result and the delta alone of the tick's own values. -/
theorem synAccum_setTl (s : State) (x : TickLocals) (hfilt : x.filt = s.tl.filt) (hdelta : x.delta = s.tl.delta) :
    synAccum (s.setTl x) = (synAccum s).setTl x := by
  rcases synAccum_cases s with ⟨hf, h⟩ | ⟨hf, h⟩ <;> rw [h, synAccum, State.setTl_tl, hfilt, hf]
  · rfl
  · rw [hdelta]
    rfl

/-- `SYN.REBASE` reads the pair and the delta alone of the tick's own values. -/
theorem synRebase_setTl (s : State) (x : TickLocals) (hrs : x.rs = s.tl.rs) (hrv : x.rv = s.tl.rv)
    (hdelta : x.delta = s.tl.delta) : synRebase (s.setTl x) = (synRebase s).setTl x := by
  have hsame : rebaseDue (s.setTl x) = rebaseDue s := by
    simp only [rebaseDue, State.setTl_sync, State.setTl_tl, State.setTl_cfg, hrs, hrv]
  rcases synRebase_cases s with ⟨hd, h⟩ | ⟨hd, h⟩ <;> rw [h, synRebase, hsame, hd]
  · rfl
  · rw [State.setTl_tl, hrs, hrv, hdelta]
    rfl

/-- `SYN.TARGET` and `SYN.STEPS` write the other three. -/
theorem synSteps_synTarget_setTl (s : State) (x : TickLocals) (hrs : x.rs = s.tl.rs) (hrv : x.rv = s.tl.rv)
    (hdelta : x.delta = s.tl.delta) (hfilt : x.filt = s.tl.filt) :
    synSteps (synTarget (s.setTl x)) = synSteps (synTarget s) := by
  simp only [synSteps, synTarget, State.setTl_tl, State.setTl_sync, State.setTl_setTl, hrs, hrv, hdelta, hfilt]

theorem tick_setTl (s : State) (x : TickLocals) : tick (s.setTl x) = tick s := by
  have hAccum : accumulated (s.setTl x) = (accumulated s).setTl { (measured s).tl with
      target := x.target, steps := x.steps, absSteps := x.absSteps } := by
    rw [accumulated, measured_setTl]
    exact synAccum_setTl _ _ rfl rfl
  have hBase : baselined (s.setTl x) = (baselined s).setTl { (measured s).tl with
      target := x.target, steps := x.steps, absSteps := x.absSteps } := by
    rw [baselined, hAccum]
    exact synRebase_setTl _ _ (by simp) (by simp) (by simp)
  have hOwing : owing (s.setTl x) = owing s := by
    rw [owing, hBase]
    exact synSteps_synTarget_setTl _ _ (by simp) (by simp) (by simp) (by simp)
  rw [tick_eq, tick_eq, checked, checked, hOwing]

/-! ### A `TICK` and the cycle's values -/

theorem synFchk_setUl (s : State) (y : UiLocals) : synFchk (s.setUl y) = (synFchk s).setUl y := by
  rw [synFchk_eq, synFchk_eq]
  rfl

theorem synAccum_setUl (s : State) (y : UiLocals) : synAccum (s.setUl y) = (synAccum s).setUl y := by
  unfold synAccum
  rw [apply_ite (fun u : State => u.setUl y)]
  rfl

theorem synRebase_setUl (s : State) (y : UiLocals) : synRebase (s.setUl y) = (synRebase s).setUl y := by
  unfold synRebase
  rw [apply_ite (fun u : State => u.setUl y)]
  rfl

theorem synHalt_setUl (s : State) (y : UiLocals) : synHalt (s.setUl y) = (synHalt s).setUl y := by
  unfold synHalt
  rw [apply_ite (fun u : State => u.setUl y)]
  rfl

theorem synIssue_setUl (s : State) (y : UiLocals) : synIssue (s.setUl y) = (synIssue s).setUl y := by
  unfold synIssue
  rw [apply_ite (fun u : State => u.setUl y), apply_ite (fun u : State => u.setUl y)]
  rfl

/-- A `TICK` neither reads nor writes the cycle's values (R61). -/
theorem tick_setUl (s : State) (y : UiLocals) : tick (s.setUl y) = (tick s).setUl y := by
  have hMeasured : measured (s.setUl y) = (measured s).setUl y := rfl
  have hOwing : owing (s.setUl y) = (owing s).setUl y := by
    rw [owing, baselined, accumulated, hMeasured, synAccum_setUl, synRebase_setUl]
    rfl
  rw [tick_eq, checked, hOwing, synFchk_setUl, synIssue_setUl, synHalt_setUl]
  rfl

theorem land_setUl (x : Interrupt) (s : State) (y : UiLocals) : land x (s.setUl y) = (land x s).setUl y := by
  cases x with
  | tick l => exact tick_setUl (present l s) y
  | knob d => rfl

theorem landAll_setUl (y : UiLocals) : ∀ (xs : List Interrupt) (s : State),
    landAll xs (s.setUl y) = (landAll xs s).setUl y
  | [], _ => rfl
  | x :: xs, s => by rw [landAll, land_setUl, landAll_setUl y xs, landAll]

/-- What lands at a boundary neither reads nor writes the cycle's values (R61). -/
theorem boundary_setUl (s : State) (y : UiLocals) : boundary (s.setUl y) = (boundary s).setUl y := by
  unfold boundary
  rw [State.setUl_landings]
  split
  · rfl
  · exact landAll_setUl y _ (s.setLandings _)

/-! ### A `UICYC` and its own values -/

/-- The cycle's values with the three that `UI.DECODE` writes taken from another record. -/
def UiLocals.picked (x y : UiLocals) : UiLocals := { x with st := y.st, uit := y.uit, op := y.op }

theorem caRead_setUl (s : State) (y : UiLocals) :
    caRead (s.setUl y) = (caRead s).setUl { y with c := s.input.clicksOut } := rfl

theorem rotGet_setUl (s : State) (y : UiLocals) :
    rotGet (s.setUl y) = (rotGet s).setUl { y with r := s.input.rot } := rfl

theorem sampleTime_setUl (s : State) (y : UiLocals) :
    sampleTime (s.setUl y) = (sampleTime s).setUl { y with t := s.tickCount } := rfl

theorem sampleFault_setUl (s : State) (y : UiLocals) :
    sampleFault (s.setUl y) = (sampleFault s).setUl { y with fs := s.shared.fault } := rfl

/-- `UI.SAMPLE` writes the four sampled values; the three that are left are the old ones. -/
theorem uiSample_setUl (s : State) (y : UiLocals) :
    uiSample (s.setUl y) = (uiSample s).setUl ((uiSample s).ul.picked y) := by
  simp only [uiSample, caRead_setUl, rotGet_setUl, sampleTime_setUl, sampleFault_setUl, boundary_setUl]
  congr 1
  simp [UiLocals.picked, sampleFault, sampleTime, rotGet, caRead]

/-- `UI.ACTIVITY` as one write of its two registers (R167). -/
theorem uiActivity_eq_ite (s : State) : uiActivity s = s.setUi { s.ui with
    lastActivity := if activity s.ul.c s.ul.r s.ui.lastRot then s.ul.t else s.ui.lastActivity
    lastRot := s.ul.r } := by
  cases h : activity s.ul.c s.ul.r s.ui.lastRot <;> simp [uiActivity, h]

/-- `UI.ACTIVITY` reads the sampled values alone, which are in both records. -/
theorem uiActivity_setUl_picked (s : State) (y : UiLocals) :
    uiActivity (s.setUl (s.ul.picked y)) = (uiActivity s).setUl (s.ul.picked y) := by
  rw [uiActivity_eq_ite, uiActivity_eq_ite]
  rfl

/-- `UI.DECODE` writes the other three from the sampled values. -/
theorem uiDecode_setUl_picked (s : State) (y : UiLocals) : uiDecode (s.setUl (s.ul.picked y)) = uiDecode s := rfl

theorem uicyc_setUl (s : State) (y : UiLocals) : uicyc (s.setUl y) = uicyc s := by
  have hSample : boundary (uiSample (s.setUl y)) =
      (boundary (uiSample s)).setUl ((boundary (uiSample s)).ul.picked y) := by
    rw [uiSample_setUl, boundary_setUl, boundary_ul]
  have hActivity : boundary (uiActivity (boundary (uiSample (s.setUl y)))) =
      (boundary (uiActivity (boundary (uiSample s)))).setUl
        ((boundary (uiActivity (boundary (uiSample s)))).ul.picked y) := by
    rw [hSample, uiActivity_setUl_picked, boundary_setUl, boundary_ul (uiActivity _), uiActivity_ul]
  have hDecode : uiDecode (boundary (uiActivity (boundary (uiSample (s.setUl y))))) =
      uiDecode (boundary (uiActivity (boundary (uiSample s)))) := by
    rw [hActivity, uiDecode_setUl_picked]
  rw [uicyc_eq_beforeTrans, uicyc_eq_beforeTrans, beforeTrans, beforeTrans, hDecode]

/-- Settles O29: a `TICK` and a `UICYC` overwrite what their own values held. -/
theorem localValuesCarryNothingOver : Obligations.LocalValuesCarryNothingOver :=
  fun s x y => ⟨congrArg Host.Outcome.next (tick_setTl s x), congrArg Host.Outcome.next (uicyc_setUl s y)⟩

end Sys2Proof.Machine
end

section
/-! PROOF. Windows of samples (42_input_conditioning.md R211, R212, R221, R254): a run of equal samples through a
counter debounce, and a burst that no click extends; and the rotary code's inverse law (30_encoding.md R101, R102). -/

namespace Sys2Proof.Machine

/-! ### Chains of one instruction -/

/-- An instruction that always answers a next state, taken `n` times. -/
theorem execAll_replicate {i : Instr} {f : State → State} (h : ∀ s, exec i s = .next (f s)) (n : Nat) (s : State) :
    execAll (List.replicate n i) s = .next (f^[n] s) := by
  induction n generalizing s with
  | zero => rfl
  | succ n ih => rw [List.replicate_succ, execAll_cons_of_next (h s), ih, Function.iterate_succ_apply]

/-! ### A window of equal samples -/

/-- A debounce inside the machine: while `Good` holds, each step of `f` samples the same `b` into the level and the run
that `unit` reads off the state (R211, R221). -/
structure SamplesInto (f : State → State) (unit : State → Bool × Nat) (Good : State → Prop) (window : Nat) (b : Bool) :
    Prop where
  keeps : ∀ s, Good s → Good (f s)
  samples : ∀ s, Good s → unit (f s) = debounce window (unit s).1 (unit s).2 b

section
variable {f : State → State} {unit : State → Bool × Nat} {Good : State → Prop} {window : Nat} {b : Bool}

/-- Before the window is full the level stays and the run counts the samples. -/
theorem SamplesInto.before_window (h : SamplesInto f unit Good window b) {s : State} {level : Bool} (hgood : Good s)
    (hunit : unit s = (level, 0)) (hlevel : b ≠ level) (n : Nat) (hn : n < window) :
    Good (f^[n] s) ∧ unit (f^[n] s) = (level, n) := by
  induction n with
  | zero => exact ⟨hgood, hunit⟩
  | succ n ih =>
    obtain ⟨hg, hu⟩ := ih (by omega)
    rw [Function.iterate_succ_apply']
    refine ⟨h.keeps _ hg, ?_⟩
    rw [h.samples _ hg, hu, debounce, if_neg hlevel, if_neg (by omega)]

/-- The sample that fills the window changes the level and ends the run. -/
theorem SamplesInto.at_window (h : SamplesInto f unit Good window b) {s : State} {level : Bool} (hgood : Good s)
    (hunit : unit s = (level, 0)) (hlevel : b ≠ level) (hwindow : 1 ≤ window) : unit (f^[window] s) = (b, 0) := by
  obtain ⟨n, rfl⟩ : ∃ n, window = n + 1 := ⟨window - 1, by omega⟩
  obtain ⟨hg, hu⟩ := h.before_window hgood hunit hlevel n (by omega)
  rw [Function.iterate_succ_apply', h.samples _ hg, hu, debounce, if_neg hlevel, if_pos le_rfl]

end

/-! ### The button -/

/-- The button's level and run. -/
def buttonUnit (s : State) : Bool × Nat := (s.input.btnLevel, s.input.btnRun.toNat)

/-- `CA.SAMPLE` is a debounce of the button, in a run counter that its window fits (R211). -/
theorem caSample_samplesInto (b : Bool) (p : Params) (hp : p.windowsOk = true) :
    SamplesInto (caSample b) buttonUnit (fun s => s.cfg = p) p.debounceTicks b where
  keeps := fun s hs => (caSample_cfg b s).trans hs
  samples := by
    rintro s rfl
    obtain ⟨hd, hd', -⟩ := (windowsOk_iff s.cfg).1 hp
    refine Prod.ext (caSample_btnLevel b s) ?_
    rw [debounce_run, buttonUnit, caSample_btnRun]
    exact toNat_ofNat_debounce_run hd (by omega) _ _ _

/-- Settles O53: samples that differ from the level, up to the window and at it. -/
theorem buttonLevelChangesAfterAWindow : Obligations.ButtonLevelChangesAfterAWindow := by
  intro s b n hwin hlevel hrun hn
  have hsamples := caSample_samplesInto b s.cfg hwin
  have hunit : buttonUnit s = (s.input.btnLevel, 0) := by rw [buttonUnit, hrun]; rfl
  refine ⟨(caSample b)^[n] s, execAll_replicate (fun _ => rfl) n s, fun hlt => ?before, fun hfull => ?full⟩
  case before => exact Prod.mk.inj (hsamples.before_window rfl hunit hlevel.symm n hlt).2
  case full =>
    subst hfull
    obtain ⟨hd, -⟩ := (windowsOk_iff s.cfg).1 hwin
    obtain ⟨hl, hr⟩ := Prod.mk.inj (hsamples.at_window rfl hunit hlevel.symm hd)
    exact ⟨hl, BitVec.eq_of_toNat_eq hr⟩

/-! ### The alarm -/

/-- The alarm's level and run. -/
def alarmUnitOf (s : State) : Bool × Nat := (s.alarm.level, s.alarm.run.toNat)

/-- A `TICK` is a debounce of the raw alarm, in a run counter that its window fits (R141, R221). -/
theorem tick_samplesInto (b : Bool) (p : Params) (hp : p.windowsOk = true) :
    SamplesInto tick alarmUnitOf (fun s => s.cfg = p ∧ s.levels.alarmRaw = b) p.alarmStable b where
  keeps := fun s hs => ⟨(tick_cfg s).trans hs.1, (congrArg (fun l : Levels => l.alarmRaw) (tick_levels s)).trans hs.2⟩
  samples := by
    rintro s ⟨rfl, rfl⟩
    obtain ⟨-, -, -, -, hw, hw'⟩ := (windowsOk_iff s.cfg).1 hp
    rw [alarmUnitOf, tick_alarm, tickPrologue_alarm]
    exact Prod.ext rfl
      ((toNat_ofNat_debounce_run (width := 4) hw (by omega) _ _ _).trans (debounce_run _ _ _ _).symm)

/-- A tick that ends with the debounced alarm set has latched ServoAlarm and stopped (R254). -/
theorem tick_of_alarm (s : State) (h : (tick s).alarm.level = true) :
    (tick s).shared.fault = .servoAlarm ∧ (tick s).sync.cacheValid = false := by
  have hfault : (tick s).shared.fault = .servoAlarm := by rw [tick_fault, if_pos h]
  exact ⟨hfault, tick_cacheHalted s (by rw [hfault]; nofun)⟩

/-- Settles O56: ticks with the raw alarm asserted, up to the window and at it. -/
theorem alarmLatchesOnTheTickThatSettles : Obligations.AlarmLatchesOnTheTickThatSettles := by
  intro s n hwin hlevel hrun hraw hn
  have hsamples := tick_samplesInto true s.cfg hwin
  have hunit : alarmUnitOf s = (false, 0) := by rw [alarmUnitOf, hlevel, hrun]; rfl
  refine ⟨tick^[n] s, execAll_replicate (fun _ => rfl) n s, fun hlt => ?before, fun hfull => ?full⟩
  case before => exact Prod.mk.inj (hsamples.before_window ⟨rfl, hraw⟩ hunit nofun n hlt).2
  case full =>
    subst hfull
    obtain ⟨-, -, -, -, hw, -⟩ := (windowsOk_iff s.cfg).1 hwin
    have hset : (tick^[s.cfg.alarmStable] s).alarm.level = true :=
      congrArg Prod.fst (hsamples.at_window ⟨rfl, hraw⟩ hunit nofun hw)
    refine ⟨hset, ?_⟩
    obtain ⟨k, hk⟩ : ∃ k, s.cfg.alarmStable = k + 1 := ⟨s.cfg.alarmStable - 1, by omega⟩
    rw [hk, Function.iterate_succ_apply'] at hset ⊢
    exact tick_of_alarm _ hset

/-! ### A burst without a further click -/

/-- A sample that is no click ages an open burst, inside the follow-on window (R212). -/
theorem caSample_ages {b : Bool} {s : State} (hcnt : s.input.burstCnt ≠ 0#8)
    (hno : s.input.btnLevel = true ∨ (caSample b s).input.btnLevel = false)
    (hlt : s.input.burstAge.toNat + 1 < s.cfg.aggTicks) (hfits : s.cfg.aggTicks ≤ 255) :
    (caSample b s).input.burstCnt = s.input.burstCnt ∧ (caSample b s).input.clicksOut = s.input.clicksOut ∧
      (caSample b s).input.burstAge.toNat = s.input.burstAge.toNat + 1 := by
  rw [caSample_input_of_no_click hno, aggregate_age _ (debouncedInput b s) hcnt hlt]
  exact ⟨rfl, rfl, toNat_ofNat_of_lt (show s.input.burstAge.toNat + 1 < 2 ^ 8 by omega)⟩

/-- On the last sample of the window it closes the burst (R212). -/
theorem caSample_closes {b : Bool} {s : State} (hcnt : s.input.burstCnt ≠ 0#8)
    (hno : s.input.btnLevel = true ∨ (caSample b s).input.btnLevel = false)
    (hle : s.cfg.aggTicks ≤ s.input.burstAge.toNat + 1) :
    (caSample b s).input.burstCnt = 0#8 ∧ (caSample b s).input.clicksOut = s.input.burstCnt ∧
      (caSample b s).input.burstAge = 0#8 := by
  rw [caSample_input_of_no_click hno, aggregate_close _ (debouncedInput b s) hcnt hle]
  exact ⟨rfl, rfl, rfl⟩

/-- An open burst of any age, after samples that are no clicks and at most fill its window (R212). -/
theorem burst_after_samples : ∀ (bs : List Bool) (s : State), s.cfg.aggTicks ≤ 255 → s.input.burstCnt ≠ 0#8 →
    s.input.burstAge.toNat < s.cfg.aggTicks → s.input.burstAge.toNat + bs.length ≤ s.cfg.aggTicks → NoClick bs s →
    ∃ t, execAll (bs.map .caSample) s = .next t ∧
      (s.input.burstAge.toNat + bs.length < s.cfg.aggTicks → t.input.burstCnt = s.input.burstCnt ∧
        t.input.clicksOut = s.input.clicksOut ∧ t.input.burstAge.toNat = s.input.burstAge.toNat + bs.length) ∧
      (s.input.burstAge.toNat + bs.length = s.cfg.aggTicks →
        t.input.burstCnt = 0#8 ∧ t.input.clicksOut = s.input.burstCnt ∧ t.input.burstAge = 0#8)
  | [], s, _, _, hage, _, _ => by
    refine ⟨s, rfl, fun _ => ⟨rfl, rfl, rfl⟩, fun hfull => ?_⟩
    rw [List.length_nil] at hfull
    omega
  | b :: bs, s, hfits, hcnt, hage, hlen, ⟨u, hu, hclick, hrest⟩ => by
    obtain rfl : caSample b s = u := Host.Outcome.next.inj hu
    have hno : s.input.btnLevel = true ∨ (caSample b s).input.btnLevel = false := by
      cases hlow : s.input.btnLevel with
      | true => exact .inl rfl
      | false => exact .inr (by simpa [hlow] using hclick)
    rw [List.length_cons] at hlen ⊢
    rw [List.map_cons, execAll_cons_of_next hu]
    by_cases hlt : s.input.burstAge.toNat + 1 < s.cfg.aggTicks
    · obtain ⟨hc, ho, ha⟩ := caSample_ages hcnt hno hlt hfits
      have ih := burst_after_samples bs (caSample b s) hfits (hc ▸ hcnt) (ha ▸ hlt)
        (by rw [ha, caSample_cfg]; omega) hrest
      rwa [hc, ho, ha, caSample_cfg, Nat.add_assoc, Nat.add_comm 1] at ih
    · obtain rfl : bs = [] := List.eq_nil_of_length_eq_zero (by omega)
      refine ⟨caSample b s, rfl, fun h => ?_, fun _ => caSample_closes hcnt hno (by omega)⟩
      rw [List.length_nil] at h
      omega

/-- Settles O54: an open burst of age 0. -/
theorem burstClosesAfterTheWindow : Obligations.BurstClosesAfterTheWindow := by
  intro s bs hwin hcnt hage hlen hno
  obtain ⟨-, -, ha, ha', -⟩ := (windowsOk_iff s.cfg).1 hwin
  have hzero : s.input.burstAge.toNat = 0 := congrArg BitVec.toNat hage
  have h := burst_after_samples bs s ha' hcnt (by omega) (by omega) hno
  rwa [hzero, Nat.zero_add] at h

/-! ### The rotary code -/

/-- Settles O57: the signed value of the code that a register decodes to is the register's own. -/
theorem rotaryCodesAreInverse : Obligations.RotaryCodesAreInverse := by
  refine ⟨fun raw => ⟨?inverse, rotDecode_snd_iff raw, rotDecode_fst_toNat raw⟩, rotDecode_rotEncode⟩
  case inverse =>
    apply BitVec.eq_of_toInt_eq
    rw [rotEncode_toInt, rotDecode_fst_toNat]
    simp only [rotDecode_snd_iff]
    split <;> omega

end Sys2Proof.Machine
end
